-- ==== Sys2Proof/Word.lean ====
section
/-! DEFINITION. The data words of the links, the two desks, and tables of a fixed number of rows. -/

namespace Sys2Proof

/-- One data byte of a character (R46). -/
abbrev Byte := BitVec 8

/-- A two-byte field, sent high byte first (R176). -/
abbrev Half := BitVec 16

/-- A four-byte field, sent high byte first (R176). -/
abbrev Quad := BitVec 32

/-- A show-clock value in milliseconds: 32 bits, wrapping, so that a difference of two of them is
taken modulo 2^32 (R53, R163). -/
abbrev Time := BitVec 32

/-- The two consoles (00_scope, Terms). -/
inductive Desk where
  | A
  | B
  deriving DecidableEq, Repr

/-- The other one of the two desks. -/
def Desk.other : Desk → Desk
  | .A => .B
  | .B => .A

/-- A table of exactly `n` rows: channels, circuits, playbacks and the like. Row `i` (counted from 0)
is the item the manual numbers `i + 1`; laws and rack addresses are numbered from 0. -/
structure Table (α : Type) (n : Nat) where
  rows : List α
  size : rows.length = n
  deriving DecidableEq, Repr

/-- The row with index `i`. -/
def Table.get {α : Type} {n : Nat} (t : Table α n) (i : Fin n) : α :=
  t.rows.get (i.cast t.size.symm)

/-- The table with row `i` replaced. -/
def Table.set {α : Type} {n : Nat} (t : Table α n) (i : Fin n) (a : α) : Table α n :=
  ⟨t.rows.set i.val a, by simp [t.size]⟩

/-- The table whose rows are all `a`. -/
def Table.fill {α : Type} (n : Nat) (a : α) : Table α n :=
  ⟨List.replicate n a, by simp⟩

/-- The table of all indices. -/
def Table.indices (n : Nat) : Table (Fin n) n :=
  ⟨List.finRange n, by simp⟩

/-- Every row changed by `f`. -/
def Table.map {α β : Type} {n : Nat} (f : α → β) (t : Table α n) : Table β n :=
  ⟨t.rows.map f, by simp [t.size]⟩

/-- Two tables combined row by row. -/
def Table.zip {α β γ : Type} {n : Nat} (f : α → β → γ) (t : Table α n) (u : Table β n) : Table γ n :=
  ⟨List.zipWith f t.rows u.rows, by simp [t.size, u.size]⟩

/-- The table whose row `i` is `f i`. -/
def Table.tab {α : Type} {n : Nat} (f : Fin n → α) : Table α n :=
  (Table.indices n).map f

/-- How many rows satisfy `p`. -/
def Table.count {α : Type} {n : Nat} (p : α → Bool) (t : Table α n) : Nat :=
  t.rows.countP p

/-- Whether every row satisfies `p`. -/
def Table.all {α : Type} {n : Nat} (p : α → Bool) (t : Table α n) : Bool :=
  t.rows.all p

/-- Whether some row satisfies `p`. -/
def Table.any {α : Type} {n : Nat} (p : α → Bool) (t : Table α n) : Bool :=
  t.rows.any p

end Sys2Proof
end

