-- ==== Sys2Proof/Syntax.lean ====
section
/-! DEFINITION. The commands of the block: one constructor of `Instr` for each row of
spec/opcode_table.json. A request row carries the desk that sends it, the tag of its COMMAND frame and
the parameter fields of R179 at their widths on the line, so that every value a console can put on the
line can be written. An event row carries the line on which the event happens and the characters or
the level that arrive. -/

namespace Sys2Proof

inductive Instr where
  /-- POWER_ON (R172): power returns after a loss of power. -/
  | powerOn
  /-- SHOW_CLOCK_TICK (R163): the show clock advances by one millisecond. -/
  | showClockTick
  /-- LEVELS_FRAME (R51): a LEVELS frame: its header, unless the receiver has just taken one, base, count
  (the number of `levels`) and the levels, up to the last level byte. -/
  | levelsFrame (desk : Desk) (base : Half) (levels : List Byte)
  /-- LEVELS_FRAME_REFUSED (R50): a LEVELS frame up to its count byte. -/
  | levelsFrameRefused (desk : Desk) (base : Half) (count : Byte)
  /-- COMMAND_FRAME (R52): a COMMAND frame: its header, unless the receiver has just taken one, tag,
  request code, length (that of `params`), parameters and check. -/
  | commandFrame (desk : Desk) (tag code : Byte) (params : List Byte) (check : Half)
  /-- COMMAND_LENGTH_REFUSED (R52): a COMMAND frame up to its second length byte. -/
  | commandLengthRefused (desk : Desk) (tag code : Byte) (length : Half)
  /-- MARKED_CHARACTER_IN_FRAME (R47): a marked character with a good stop bit. -/
  | markedCharacterInFrame (desk : Desk) (data : Byte)
  /-- FRAMING_ERROR (R49): a character whose stop bit is 0. -/
  | framingError (desk : Desk) (mark : Bool) (data : Byte)
  /-- DESK_TIMEOUT (R55). -/
  | deskTimeout (desk : Desk)
  /-- LOSS_FADE_EXPIRY (R57). -/
  | lossFadeExpiry (desk : Desk)
  /-- REPLY_SENT (R150): the last character of the oldest REPLY frame of the desk's list is sent. -/
  | replySent (desk : Desk)
  /-- SCAN_START (R68): the scan timer expires. -/
  | scanStart
  /-- COMPUTE_END (R78): the computation phase completes. -/
  | computeEnd
  | go (desk : Desk) (tag : Byte) (playback : Byte)
  | goto (desk : Desk) (tag : Byte) (playback : Byte) (cue override : Half)
  | back (desk : Desk) (tag : Byte) (playback : Byte)
  | pause (desk : Desk) (tag : Byte) (playback : Byte)
  | resume (desk : Desk) (tag : Byte) (playback : Byte)
  | release (desk : Desk) (tag : Byte) (playback : Byte)
  | loadList (desk : Desk) (tag : Byte) (playback list : Byte)
  | unload (desk : Desk) (tag : Byte) (playback : Byte)
  | setMaster (desk : Desk) (tag : Byte) (playback master : Byte)
  | setRate (desk : Desk) (tag : Byte) (playback : Byte) (rate : Half)
  | setPlaybackTimes (desk : Desk) (tag : Byte) (playback : Byte) (releaseTime backTime : Half)
  /-- WRITE_CUE (R7): `count` is the entry count field, which need not be the number of `entries`. -/
  | writeCue (desk : Desk) (tag : Byte) (list : Byte)
      (cue upTime downTime upDelay downDelay follow link count : Half) (entries : List (Half × Byte))
  | deleteCue (desk : Desk) (tag : Byte) (list : Byte) (cue : Half)
  | clearList (desk : Desk) (tag : Byte) (list : Byte)
  | setCircuit (desk : Desk) (tag : Byte) (bank : Byte) (circuit source : Half)
      (proportion law preheat topSet : Byte)
  | copyBank (desk : Desk) (tag : Byte) (source destination : Byte)
  | clearBank (desk : Desk) (tag : Byte) (bank : Byte)
  | selectBank (desk : Desk) (tag : Byte) (bank method playback : Byte)
  | cancelSwap (desk : Desk) (tag : Byte)
  /-- LOAD_LAW (R111): `body` is 17 curve points, or two thresholds of two bytes each. -/
  | loadLaw (desk : Desk) (tag : Byte) (law kind : Byte) (body : List Byte)
  | park (desk : Desk) (tag : Byte) (circuit : Half) (level : Byte)
  | unpark (desk : Desk) (tag : Byte) (circuit : Half)
  | unparkAll (desk : Desk) (tag : Byte)
  | setGrandMaster (desk : Desk) (tag : Byte) (level : Byte)
  | blackout (desk : Desk) (tag : Byte) (setting : Byte)
  | setScan (desk : Desk) (tag : Byte) (period : Byte)
  /-- SET_DESK (R62): `desk` sends the request and `target` is the desk whose settings it carries. -/
  | setDesk (desk : Desk) (tag : Byte) (target : Byte) (timeout : Half) (lossAction : Byte)
      (lossFadeTime : Half) (merge rights : Byte)
  | setLink (desk : Desk) (tag : Byte) (link enabled mask : Byte)
  | setContact (desk : Desk) (tag : Byte) (contact edge debounce : Byte)
  | setClock (desk : Desk) (tag : Byte) (clock mode : Byte) (compare load : Quad)
  | clockAction (desk : Desk) (tag : Byte) (clock action : Byte)
  | setWatch (desk : Desk) (tag : Byte) (watch : Byte) (circuit : Half)
      (condition threshold enabled : Byte)
  | setRoute (desk : Desk) (tag : Byte) (route enabled sourceKind sourceSubject taskKind taskTarget : Byte)
  | takeReports (desk : Desk) (tag : Byte) (count : Byte)
  | setReportMask (desk : Desk) (tag : Byte) (mask : Half)
  | clearFlags (desk : Desk) (tag : Byte) (selection : Half)
  | store (desk : Desk) (tag : Byte)
  | restart (desk : Desk) (tag : Byte)
  | readStatus (desk : Desk) (tag : Byte)
  | readDesk (desk : Desk) (tag : Byte) (target clear : Byte)
  | readPlayback (desk : Desk) (tag : Byte) (playback : Byte) (channel : Half)
  | readChannel (desk : Desk) (tag : Byte) (channel : Half)
  | readCircuit (desk : Desk) (tag : Byte) (circuit : Half)
  | readCue (desk : Desk) (tag : Byte) (list : Byte) (cue : Half)
  | readBankEntry (desk : Desk) (tag : Byte) (bank : Byte) (circuit : Half)
  | readLaw (desk : Desk) (tag : Byte) (law : Byte)
  | readTriggers (desk : Desk) (tag : Byte)
  /-- RESTART_CARRIED_OUT (R159): the last character of the RESTART's DONE reply has been sent. -/
  | restartCarriedOut
  /-- RACK_FRAME_END (R123): the frame in flight on a rack link ends. -/
  | rackFrameEnd (link : Fin 4)
  /-- REFRESH (R127): the refresh timer of a rack link reaches 100 ms. -/
  | refresh (link : Fin 4)
  /-- CONTACT_INPUT_CHANGE (R133): the input of a contact goes to the given level. -/
  | contactInputChange (contact : Fin 4) (high : Bool)
  /-- DEBOUNCE_EXPIRY (R134). -/
  | debounceExpiry (contact : Fin 4)
  /-- CLOCK_MATCH (R137): the advance of a cue clock that reaches its compare value. -/
  | clockMatch (clock : Fin 3)
  /-- STORE_DONE (R171): the whole image has been written. -/
  | storeDone
  /-- STORE_FAILED (R171): a write fault during a store. -/
  | storeFailed
  /-- FRAME_HEADER_IN_HUNT (R47): a marked character with a good stop bit. -/
  | frameHeaderInHunt (desk : Desk) (data : Byte)
  deriving DecidableEq, Repr

end Sys2Proof
end

