-- ==== Sys2Proof/Decode.lean ====
section
/-! DEFINITION. The command that a word spells by the opcode table's bits. The table gives no row any bits
(spec/98_reader.md counts no row with fixed bits and none with fields), so no word spells a command. The
layouts of the bytes on the links, which the spec does give (R174 to R180), are in
Machine/Operands.lean and Machine/DeskLinks.lean. -/

namespace Sys2Proof

/-- The command a word spells by the table's bits: none, since no row has bits. -/
def decodeTableWord (_nbits _w : Nat) : Option Instr := none

end Sys2Proof
end

