-- ==== Sys2Proof/Config.lean ====
section
/-! DEFINITION. The fixed capacities of the part, and the free values: what the manual leaves open.
A free value has no body, so nothing can be proved of it. -/

namespace Sys2Proof.Config

/-- Cues, all lists together (R5). -/
def maxCues : Nat := 1000
/-- Cue entries, all cues together (R5). -/
def maxEntries : Nat := 32768
/-- Cue numbers run 1 to 9999 tenths (R2). -/
def maxCueNumber : Nat := 9999
/-- Cue, release and back times run 0 to 6000 tenths (R2, R17). -/
def maxTenths : Nat := 6000
/-- Microseconds in a tenth of a second (R23). -/
def usPerTenth : Nat := 100000
/-- Entries of the park list (R115). -/
def maxParks : Nat := 48
/-- Records of the report queue (R165). -/
def reportCapacity : Nat := 32
/-- BUSY replies a reply list may hold (R150). -/
def maxBusyReplies : Nat := 3
/-- Parameter bytes of a COMMAND frame (R52). -/
def maxParams : Nat := 2400
/-- Idle time before a rack link's last set is sent again, in ms (R127). -/
def refreshMs : Nat := 100
/-- A compute end comes no later than this many ms after its scan start (R68). -/
def computeLimitMs : Nat := 2
/-- A store completes or fails within this many ms (R171). -/
def storeLimitMs : Nat := 3000
/-- The desk error count stays at this value (R48). -/
def maxErrors : Nat := 65535
/-- The largest value of a fade clock, in µs (R17). -/
def maxFadeClock : Nat := 2 ^ 64 - 1
/-- How deep one event can set off another: at most sixteen routes fire between two scan starts
(R143), so an event is offered at most sixteen firings below the first (assumption 21). -/
def routeDepth : Nat := 17

/-- DESIGN CHOICE (assumption 1): what a fade clock value becomes when the exact sum does not fit 64
bits. R20 says only that the limit would not be reached for more than 100,000 years. -/
opaque fadeClockPastLimit : Nat → BitVec 64

/-- DESIGN CHOICE (assumption 2): the order in which the four transmitters act on their posts, which
R126 says is not fixed, as one of the 24 orders of four links. -/
opaque postOrder : Nat → Fin 24

/-- DESIGN CHOICE (assumption 3): whether a store that nothing has ended after 3 s meets a write fault.
R171 says only that it completes or fails by then. -/
opaque storeFaults : Nat → Bool

end Sys2Proof.Config
end

