-- ==== Sys2Proof/Machine/Request.lean ====
section
/-! DEFINITION. A request as its owner sees it: the parameter fields of R179, read from the bytes of a
COMMAND frame at their widths on the line. -/

namespace Sys2Proof.Machine

/-- One request of the catalogue (section 9.6) with its parameter fields. WRITE CUE keeps the bytes
after its fixed part as they came, because the match of entry count and length is the cue store's own
check (R7, R154). LOAD LAW keeps the bytes after its kind for the same reason (R111). -/
inductive Request where
  | go (playback : Byte)
  | goto (playback : Byte) (cue override : Half)
  | back (playback : Byte)
  | pause (playback : Byte)
  | resume (playback : Byte)
  | release (playback : Byte)
  | loadList (playback list : Byte)
  | unload (playback : Byte)
  | setMaster (playback master : Byte)
  | setRate (playback : Byte) (rate : Half)
  | setPlaybackTimes (playback : Byte) (releaseTime backTime : Half)
  | writeCue (list : Byte) (cue upTime downTime upDelay downDelay follow link count : Half)
      (entries : List Byte)
  | deleteCue (list : Byte) (cue : Half)
  | clearList (list : Byte)
  | setCircuit (bank : Byte) (circuit source : Half) (proportion law preheat topSet : Byte)
  | copyBank (source destination : Byte)
  | clearBank (bank : Byte)
  | selectBank (bank method playback : Byte)
  | cancelSwap
  | loadLaw (law kind : Byte) (body : List Byte)
  | park (circuit : Half) (level : Byte)
  | unpark (circuit : Half)
  | unparkAll
  | setGrandMaster (level : Byte)
  | blackout (setting : Byte)
  | setScan (period : Byte)
  | setDesk (target : Byte) (timeout : Half) (lossAction : Byte) (lossFadeTime : Half)
      (merge rights : Byte)
  | setLink (link enabled mask : Byte)
  | setContact (contact edge debounce : Byte)
  | setClock (clock mode : Byte) (compare load : Quad)
  | clockAction (clock action : Byte)
  | setWatch (watch : Byte) (circuit : Half) (condition threshold enabled : Byte)
  | setRoute (route enabled sourceKind sourceSubject taskKind taskTarget : Byte)
  | takeReports (count : Byte)
  | setReportMask (mask : Half)
  | clearFlags (selection : Half)
  | store
  | restart
  | readStatus
  | readDesk (target clear : Byte)
  | readPlayback (playback : Byte) (channel : Half)
  | readChannel (channel : Half)
  | readCircuit (circuit : Half)
  | readCue (list : Byte) (cue : Half)
  | readBankEntry (bank : Byte) (circuit : Half)
  | readLaw (law : Byte)
  | readTriggers
  deriving DecidableEq, Repr

end Sys2Proof.Machine
end

