-- ==== Sys2Proof/Machine/State.lean ====
section
/-! DEFINITION. The state of the SP-24, block by block (00_scope, section 3.2), the reasons a step can
stop, and the state right after a power-on with no valid image in show memory. -/

namespace Sys2Proof.Machine

/-! ### Events and reports (R164, R180) -/

/-- The fourteen event kinds (section 10.2), in the order of their codes. -/
inductive EventKind where
  | playbackGo
  | playbackDone
  | playbackEnd
  | linkMissing
  | deskLost
  | deskBack
  | swapDone
  | contact
  | clock
  | watch
  | taskRefused
  | setSkipped
  | storeDone
  | storeFailed
  deriving DecidableEq, Repr

/-- An event as its block raises it: kind, subject and detail. -/
structure Event where
  kind : EventKind
  subject : Nat
  detail : Nat
  deriving DecidableEq, Repr

/-- A report: an event with the show-clock value at which it was raised (R164). -/
structure Report where
  event : Event
  time : Time
  deriving DecidableEq, Repr

/-! ### Cue store (R1, R2, R4) -/

/-- A cue entry: a channel (index from 0) and a cue level. -/
structure Entry where
  channel : Fin 768
  level : Byte
  deriving DecidableEq, Repr

/-- A cue record. Times are in tenths of a second. -/
structure Cue where
  number : Nat
  upTime : Nat
  downTime : Nat
  upDelay : Nat
  downDelay : Nat
  follow : Option Nat
  link : Option Nat
  entries : List Entry
  deriving DecidableEq, Repr

/-- A cue list, in ascending cue number. -/
abbrev CueList := List Cue

/-! ### Playbacks (R17 to R19) -/

/-- The five playback states (R18). -/
inductive PlaybackState where
  | empty
  | idle
  | fading
  | waiting
  | paused
  deriving DecidableEq, Repr

/-- One channel's level in a playback and the move it is making (R19). Delay, time and origin are in
µs of the fade clock. -/
structure FadeRecord where
  level : Nat
  start : Nat
  target : Nat
  delay : Nat
  time : Nat
  origin : Nat
  moving : Bool
  deriving DecidableEq, Repr

/-- A record cleared by UNLOAD or a reset (R38, R45). -/
def FadeRecord.cleared : FadeRecord := ⟨0, 0, 0, 0, 0, 0, false⟩

/-- One playback (R17). `scanEvents` holds the events of the scan work in progress, kept in the order
they arose until compute end raises them (R21). -/
structure Playback where
  state : PlaybackState
  loaded : Option (Fin 8)
  current : Option Nat
  clock : Nat
  follow : Option Nat
  master : Byte
  rate : Nat
  releaseTime : Nat
  backTime : Nat
  records : Table FadeRecord 768
  scanEvents : List Event
  deriving DecidableEq, Repr

/-- A playback right after a reset, with the list and times it keeps or is given (R45). -/
def Playback.afterReset (loaded : Option (Fin 8)) (releaseTime backTime : Nat) : Playback where
  state := if loaded.isSome then .idle else .empty
  loaded := loaded
  current := none
  clock := 0
  follow := none
  master := 255
  rate := 100
  releaseTime := releaseTime
  backTime := backTime
  records := Table.fill 768 .cleared
  scanEvents := []

/-! ### Desk links (R46 to R61) -/

/-- A character on a link: data byte, mark, and whether its stop bit is good, which it is when it is 1
(R46, R174). -/
structure Character where
  data : Byte
  mark : Bool
  stopGood : Bool
  deriving DecidableEq, Repr

/-- The frame kinds a desk receiver assembles (R47). -/
inductive FrameKind where
  | levels
  | command
  deriving DecidableEq, Repr

/-- The two receiver states (R47). IN FRAME holds the bytes taken since the header, oldest first. -/
inductive ReceiverState where
  | hunt
  | inFrame (kind : FrameKind) (bytes : List Byte)
  deriving DecidableEq, Repr

/-- A desk receiver: its state and the desk error count, 0 to 65,535 (R48). -/
structure Receiver where
  state : ReceiverState
  errors : Nat
  deriving DecidableEq, Repr

/-- The three desk states (R54, R55). -/
inductive DeskState where
  | absent
  | active
  | lost
  deriving DecidableEq, Repr

/-- The three loss actions (R56). -/
inductive LossAction where
  | hold
  | drop
  | fade
  deriving DecidableEq, Repr

/-- The two merge settings (R61). -/
inductive Merge where
  | htp
  | off
  deriving DecidableEq, Repr

/-- The three rights settings (R61, R153). -/
inductive Rights where
  | full
  | playback
  | none
  deriving DecidableEq, Repr

/-- The five settings of a desk (R61): timeout in ms, loss fade time in tenths. -/
structure DeskSettings where
  timeout : Nat
  lossAction : LossAction
  lossFadeTime : Nat
  merge : Merge
  rights : Rights
  deriving DecidableEq, Repr

/-- The factory settings of a desk (R61). -/
def DeskSettings.factory : Desk → DeskSettings
  | .A => ⟨1000, .hold, 30, .htp, .full⟩
  | .B => ⟨1000, .hold, 30, .htp, .playback⟩

/-- The latest loss: its moment, the captured action and the captured fade time in ms (R53, R55). -/
structure Loss where
  moment : Time
  action : LossAction
  fadeTime : Nat
  deriving DecidableEq, Repr

/-- A desk monitor (R53). -/
structure Monitor where
  state : DeskState
  live : Table Nat 768
  lastLevels : Option Time
  lastBase1 : Option Time
  refreshInterval : Option Time
  loss : Option Loss
  fadeRunning : Bool
  settings : DeskSettings
  deriving DecidableEq, Repr

/-- A monitor right after a reset, with its settings (R65). -/
def Monitor.afterReset (settings : DeskSettings) : Monitor where
  state := .absent
  live := Table.fill 768 0
  lastLevels := none
  lastBase1 := none
  refreshInterval := none
  loss := none
  fadeRunning := false
  settings := settings

/-! ### Commands and replies (R149 to R157) -/

/-- A command as the receiver hands it on: tag, request code and parameters. -/
structure Command where
  tag : Byte
  code : Byte
  params : List Byte
  deriving DecidableEq, Repr

/-- A desk's command buffer (R149). -/
inductive Buffer where
  | empty
  | waiting (c : Command)
  | taken (c : Command)
  | answering (c : Command)
  deriving DecidableEq, Repr

/-- The outcomes of a request (R157). -/
inductive Result where
  | done
  | started
  | busy
  | notPermitted
  | badRequest
  | outOfRange
  | noSuch
  | full
  | wrongState
  | endOfList
  deriving DecidableEq, Repr

/-- What a REPLY frame in a reply list is: a BUSY reply for a second command, the final reply of the
buffer's command, the DONE reply of a RESTART, or a final reply whose command a restart has discarded
while the frame was on the line (R150, R159, R162). -/
inductive ReplyKind where
  | busy
  | final
  | restart
  | orphan
  deriving DecidableEq, Repr

/-- A REPLY frame waiting in a reply list or on the line (R150, R157). -/
structure Reply where
  kind : ReplyKind
  tag : Byte
  code : Byte
  result : Result
  flags : Byte
  data : List Byte
  deriving DecidableEq, Repr

/-- The command processor's part of a desk link: the command buffer and the reply list, oldest first.
The head of a reply list is the frame on the return line. -/
structure Port where
  buffer : Buffer
  replies : List Reply
  deriving DecidableEq, Repr

/-- All that belongs to one desk link. -/
structure DeskUnit where
  receiver : Receiver
  monitor : Monitor
  port : Port
  deriving DecidableEq, Repr

/-- The command processor's states (R151), with the desk whose command it has taken. -/
inductive ProcessorState where
  | idle
  | executing (desk : Desk)
  | holding (desk : Desk)
  deriving DecidableEq, Repr

/-- The command processor: its state and the arbiter's mark, the desk served most recently (R151). -/
structure Processor where
  state : ProcessorState
  served : Desk
  deriving DecidableEq, Repr

/-! ### Patch banks and output stage (R89, R105, R110, R115) -/

/-- A circuit record (R89). The source channel is an index from 0. -/
structure CircuitRecord where
  source : Option (Fin 768)
  proportion : Nat
  law : Fin 8
  preheat : Byte
  topSet : Byte
  deriving DecidableEq, Repr

/-- The default record (R89). -/
def CircuitRecord.default : CircuitRecord := ⟨none, 100, 0, 0, 255⟩

/-- A patch bank: one record for each circuit. -/
abbrev Bank := Table CircuitRecord 1536

/-- A dimmer law (R105). -/
inductive Law where
  | linear
  | curve (points : Table Byte 17)
  | switch (on off : Nat)
  deriving DecidableEq, Repr

/-- The factory curve: Pi = (i × 255 + 8) div 16 (R114). -/
def Law.factoryCurve : Law :=
  .curve (Table.tab fun i => BitVec.ofNat 8 ((i.val * 255 + 8) / 16))

/-- The eight laws at their factory values: Law 0 LINEAR, Laws 1 to 7 the factory curve (R114). -/
def Law.factory : Table Law 8 := (Table.fill 8 Law.factoryCurve).set 0 .linear

/-- A park entry: a circuit (index from 0) and its park level (R115). -/
structure Park where
  circuit : Fin 1536
  level : Byte
  deriving DecidableEq, Repr

/-- The patch banks block: banks, laws, park list in ascending circuit, and the switch state of each
circuit, `true` for ON. -/
structure Patch where
  banks : Table Bank 4
  laws : Table Law 8
  parks : List Park
  switches : Table Bool 1536
  deriving DecidableEq, Repr

/-! ### Level processor (R66, R72, R83, R97) -/

/-- The level processor's phase (R68). -/
inductive Phase where
  | waiting
  | computing
  deriving DecidableEq, Repr

/-- The four swap methods (R97), AT GO with its playback. -/
inductive Method where
  | nextScan
  | atDark
  | atGo (playback : Fin 6)
  | onTask
  deriving DecidableEq, Repr

/-- A staged swap (R97). -/
structure Staged where
  target : Fin 4
  method : Method
  due : Bool
  deriving DecidableEq, Repr

/-- What the latch takes from one desk monitor (R63, R72): whether it contributes, its live array, and
e and T of a running loss fade. -/
structure DeskLatch where
  contributes : Bool
  live : Table Nat 768
  fade : Option (Nat × Nat)
  deriving DecidableEq, Repr

/-- A latch that holds nothing (R88). -/
def DeskLatch.cleared : DeskLatch := ⟨false, Table.fill 768 0, none⟩

/-- The latched inputs of a scan (R72). -/
structure Latch where
  deskA : DeskLatch
  deskB : DeskLatch
  grandMaster : Byte
  blackout : Bool
  masters : Table Byte 6
  length : Nat
  deriving DecidableEq, Repr

/-- The latched inputs after a reset: all 0 and no desk contributing (R88), but for the grand master,
which R83 gives as 255 (assumption 24). -/
def Latch.afterReset : Latch where
  deskA := .cleared
  deskB := .cleared
  grandMaster := 255
  blackout := false
  masters := Table.fill 6 0
  length := 0

/-- What one desk gave to a scan (R83). The levels are 0 when the desk did not contribute. -/
structure DeskPresent where
  contributed : Bool
  levels : Table Nat 768
  scaled : Bool
  deriving DecidableEq, Repr

/-- What a scan gave for one circuit (R83, R104). -/
structure CircuitResult where
  intensity : Nat
  output : Nat
  switchOn : Bool
  parked : Bool
  deriving DecidableEq, Repr

/-- The values of one scan (R83). The same shape serves the scan being computed and the last completed
scan record. `levels` are the channel levels and the `intensity` fields the circuit intensities of R66;
the `output` fields are the scan's output set. -/
structure ScanRecord where
  start : Time
  deskA : DeskPresent
  deskB : DeskPresent
  contributions : Table (Table Nat 768) 6
  merged : Table Nat 768
  levels : Table Nat 768
  grandMaster : Byte
  blackout : Bool
  bank : Fin 4
  circuits : Table CircuitResult 1536
  dark : Bool
  deriving DecidableEq, Repr

/-- The record after a reset, until the first compute end (R83). -/
def ScanRecord.afterReset (bank : Fin 4) : ScanRecord where
  start := 0
  deskA := ⟨false, Table.fill 768 0, false⟩
  deskB := ⟨false, Table.fill 768 0, false⟩
  contributions := Table.fill 6 (Table.fill 768 0)
  merged := Table.fill 768 0
  levels := Table.fill 768 0
  grandMaster := 255
  blackout := false
  bank := bank
  circuits := Table.fill 1536 ⟨0, 0, false, false⟩
  dark := false

/-- The tasks a route can issue (R142), each with its target. -/
inductive Task where
  | go (playback : Fin 6)
  | pause (playback : Fin 6)
  | resume (playback : Fin 6)
  | release (playback : Fin 6)
  | start (clock : Fin 3)
  | continue (clock : Fin 3)
  | stop (clock : Fin 3)
  | stopAtMatch (clock : Fin 3)
  | blackoutOn
  | blackoutOff
  | swapNow
  deriving DecidableEq, Repr

/-- A held request (R76): a command with the desk that sent it, or a route's task. -/
inductive Held where
  | command (desk : Desk) (c : Command) (r : Request)
  | task (route : Fin 16) (t : Task)
  deriving DecidableEq, Repr

/-- The level processor (R66). `timer` counts the ms left to the next expiry of the scan timer.
`newBank` is the new-bank mark with the bank that was active before the swap (R70). `work` is the scan
in progress or, in WAITING, the scan last computed; `last` is the last completed scan record.
`beforeScan` is the MODEL's own field: the playbacks as they stood at the last scan start before their
scan work, from which READ PLAYBACK answers while the phase is COMPUTING (R43, assumption 16). -/
structure LevelProcessor where
  phase : Phase
  timer : Nat
  period : Nat
  inForce : Nat
  grandMaster : Byte
  blackout : Bool
  activeBank : Fin 4
  staged : Option Staged
  newBank : Option (Fin 4)
  latch : Latch
  work : ScanRecord
  held : List Held
  dark : Bool
  last : ScanRecord
  beforeScan : Table Playback 6
  deriving DecidableEq, Repr

/-- The level processor right after a reset (R88): the timer is loaded with the period. -/
def LevelProcessor.afterReset (period : Nat) (bank : Fin 4) (playbacks : Table Playback 6) :
    LevelProcessor where
  phase := .waiting
  timer := period
  period := period
  inForce := period
  grandMaster := 255
  blackout := false
  activeBank := bank
  staged := none
  newBank := none
  latch := .afterReset
  work := .afterReset bank
  held := []
  dark := false
  last := .afterReset bank
  beforeScan := playbacks

/-! ### Rack links (R121) -/

/-- The transmitter state (R121). -/
inductive LinkState where
  | idle
  | sending (rack : Fin 4)
  deriving DecidableEq, Repr

/-- One link's share of an output set: 384 output values. -/
abbrev LinkSet := Table Nat 384

/-- A rack transmitter (R121). Bit a of `mask` is rack address a (R178). -/
structure Transmitter where
  enabled : Bool
  mask : BitVec 4
  state : LinkState
  current : Option LinkSet
  cycle : List (Fin 4)
  queued : Option LinkSet
  last : Option LinkSet
  refresh : Option Nat
  deriving DecidableEq, Repr

/-- A transmitter right after power-on, with its settings (R132). -/
def Transmitter.afterPowerOn (enabled : Bool) (mask : BitVec 4) : Transmitter where
  enabled := enabled
  mask := mask
  state := .idle
  current := none
  cycle := []
  queued := none
  last := none
  refresh := none

/-! ### Trigger unit (R133, R136, R140, R142) -/

/-- A contact's edge setting (R133). -/
inductive Edge where
  | off
  | rising
  | falling
  | both
  deriving DecidableEq, Repr

/-- A contact input (R133): `true` is high; `timer` is the ms elapsed of a running debounce timer. -/
structure Contact where
  edge : Edge
  debounce : Nat
  input : Bool
  accepted : Bool
  timer : Option Nat
  deriving DecidableEq, Repr

/-- A cue clock's mode (R136). -/
inductive ClockMode where
  | oneShot
  | repeat
  | free
  deriving DecidableEq, Repr

/-- A cue clock's state (R136). -/
inductive ClockState where
  | stopped
  | running
  | stopping
  deriving DecidableEq, Repr

/-- A cue clock (R136). `owed` is the MODEL's own field: the present millisecond's advance of this
clock reaches the compare value and is still to be made (CLOCK_MATCH). -/
structure CueClock where
  mode : ClockMode
  compare : BitVec 24
  load : BitVec 24
  count : BitVec 24
  state : ClockState
  owed : Bool
  deriving DecidableEq, Repr

/-- A level watch's condition (R140). -/
inductive Condition where
  | above
  | below
  deriving DecidableEq, Repr

/-- A level watch's state (R140). -/
inductive WatchState where
  | off
  | priming
  | clear
  | met
  deriving DecidableEq, Repr

/-- A level watch (R140). The circuit is an index from 0. -/
structure Watch where
  circuit : Fin 1536
  condition : Condition
  threshold : Byte
  enabled : Bool
  state : WatchState
  lastOutput : Option Nat
  deriving DecidableEq, Repr

/-- A route's source: a routable event kind with the subject it requires (R142). -/
inductive Source where
  | playbackGo (playback : Fin 6)
  | playbackDone (playback : Fin 6)
  | deskLost (desk : Desk)
  | deskBack (desk : Desk)
  | swapDone
  | contact (contact : Fin 4)
  | clock (clock : Fin 3)
  | watch (watch : Fin 8)
  deriving DecidableEq, Repr

/-- A route (R142). -/
structure Route where
  enabled : Bool
  source : Source
  task : Task
  holdoff : Bool
  deriving DecidableEq, Repr

/-- The trigger unit. -/
structure Triggers where
  contacts : Table Contact 4
  clocks : Table CueClock 3
  watches : Table Watch 8
  routes : Table Route 16
  deriving DecidableEq, Repr

/-! ### Report unit (R164, R165, R168) -/

/-- The report unit. Event kind k is bit k − 1 of the flags and of the mask (R178). -/
structure Reports where
  queue : List Report
  flags : BitVec 14
  mask : BitVec 14
  overrun : Bool
  deriving DecidableEq, Repr

/-! ### Show memory (R170) -/

/-- What the image keeps of a playback (R170). -/
structure PlaybackImage where
  loaded : Option (Fin 8)
  releaseTime : Nat
  backTime : Nat
  deriving DecidableEq, Repr

/-- What the image keeps of a rack link (R170). -/
structure LinkImage where
  enabled : Bool
  mask : BitVec 4
  deriving DecidableEq, Repr

/-- What the image keeps of a contact (R170). -/
structure ContactImage where
  edge : Edge
  debounce : Nat
  deriving DecidableEq, Repr

/-- What the image keeps of a cue clock (R170). -/
structure ClockImage where
  mode : ClockMode
  compare : BitVec 24
  load : BitVec 24
  deriving DecidableEq, Repr

/-- What the image keeps of a level watch (R170). -/
structure WatchImage where
  circuit : Fin 1536
  condition : Condition
  threshold : Byte
  enabled : Bool
  deriving DecidableEq, Repr

/-- What the image keeps of a route (R170). -/
structure RouteImage where
  enabled : Bool
  source : Source
  task : Task
  deriving DecidableEq, Repr

/-- The stored image (R170). -/
structure Image where
  banks : Table Bank 4
  activeBank : Fin 4
  period : Nat
  laws : Table Law 8
  lists : Table CueList 8
  playbacks : Table PlaybackImage 6
  deskA : DeskSettings
  deskB : DeskSettings
  links : Table LinkImage 4
  contacts : Table ContactImage 4
  clocks : Table ClockImage 3
  watches : Table WatchImage 8
  routes : Table RouteImage 16
  mask : BitVec 14
  deriving DecidableEq, Repr

/-- The factory value of every stored item (R172). -/
def Image.factory : Image where
  banks := Table.fill 4 (Table.fill 1536 .default)
  activeBank := 0
  period := 10
  laws := Law.factory
  lists := Table.fill 8 []
  playbacks := Table.fill 6 ⟨none, 20, 10⟩
  deskA := .factory .A
  deskB := .factory .B
  links := Table.fill 4 ⟨true, 15⟩
  contacts := Table.fill 4 ⟨.off, 20⟩
  clocks := Table.fill 3 ⟨.oneShot, 0, 0⟩
  watches := Table.fill 8 ⟨0, .above, 255, false⟩
  routes := Table.fill 16 ⟨false, .contact 0, .go 0⟩
  mask := BitVec.allOnes 14

/-- The show memory (R170). VALID carries the stored image. STORING carries the image being written,
taken from the items as they stood when the store began, and the show-clock value of that moment. -/
inductive ShowMemory where
  | valid (image : Image)
  | invalid
  | storing (image : Image) (since : Time)
  deriving DecidableEq, Repr

/-! ### The whole part -/

/-- The state of the SP-24 and the commands that wait for it, first in, first out. `choices` is the
MODEL's own field: how many free values have been used. -/
structure State where
  deskA : DeskUnit
  deskB : DeskUnit
  lists : Table CueList 8
  playbacks : Table Playback 6
  level : LevelProcessor
  patch : Patch
  links : Table Transmitter 4
  triggers : Triggers
  processor : Processor
  reports : Reports
  showClock : Time
  memory : ShowMemory
  choices : Nat
  pending : List Instr
  deriving DecidableEq, Repr

/-- Why a step stops with a fault. There is no such reason: every occurrence the manual describes has
an effect, so the type is empty (assumption 21). -/
inductive Fault where
  deriving DecidableEq, Repr

/-- Why a command is refused by the model. No meaning answers with it. -/
inductive Refusal where
  /-- Raised by `exec` for a row of the opcode table that has no meaning yet; no arm raises it now. Safe:
  the machine stops where the part goes on. -/
  | notModelled (mnemonic : String)
  deriving DecidableEq, Repr

/-- A desk unit right after power-on with its factory settings (R65, R162). -/
def DeskUnit.factory (d : Desk) : DeskUnit where
  receiver := ⟨.hunt, 0⟩
  monitor := .afterReset (.factory d)
  port := ⟨.empty, []⟩

/-- The SP-24 right after a power-on whose show memory is INVALID (R172): every stored item at its
factory value. DESIGN CHOICE (assumption 4): the memory is INVALID and the contact inputs are low,
which the manual leaves to the world. -/
def State.reset : State where
  deskA := .factory .A
  deskB := .factory .B
  lists := Table.fill 8 []
  playbacks := Table.fill 6 (.afterReset none 20 10)
  level := .afterReset 10 0 (Table.fill 6 (.afterReset none 20 10))
  patch :=
    { banks := Table.fill 4 (Table.fill 1536 .default)
      laws := Law.factory
      parks := []
      switches := Table.fill 1536 false }
  links := Table.fill 4 (.afterPowerOn true 15)
  triggers :=
    { contacts := Table.fill 4 ⟨.off, 20, false, false, none⟩
      clocks := Table.fill 3 ⟨.oneShot, 0, 0, 0, .stopped, false⟩
      watches := Table.fill 8 ⟨0, .above, 255, false, .off, none⟩
      routes := Table.fill 16 ⟨false, .contact 0, .go 0, false⟩ }
  processor := ⟨.idle, .B⟩
  reports := ⟨[], 0, BitVec.allOnes 14, false⟩
  showClock := 0
  memory := .invalid
  choices := 0
  pending := []

end Sys2Proof.Machine
end

