-- ==== Sys2Proof/Machine/Ops.lean ====
section
/-! DEFINITION. Named reads and writes of the state, shared by every block. -/

namespace Sys2Proof.Machine

/-- The item that a field numbers `k` among `n` items numbered from 1, or none when `k` numbers no
existing item (section 7.5). -/
def number (n k : Nat) : Option (Fin n) :=
  if h : 1 ≤ k ∧ k ≤ n then some ⟨k - 1, by omega⟩ else none

/-- The number the manual gives to the item with index `i`. -/
def numbered {n : Nat} (i : Fin n) : Nat := i.val + 1

/-- The nearest end of `lo` to `hi` for a clamped setting (section 7.6). -/
def clamp (lo hi x : Nat) : Nat := max lo (min x hi)

/-- A cue or desk level carried onto the intensity scale (section 7.2). -/
def expand (x : Byte) : Nat := x.toNat * 16 + x.toNat / 16

/-- An intensity scaled by a master or grand master (R42, R74). -/
def scaleBy (master : Byte) (x : Nat) : Nat := (x * master.toNat + 127) / 255

/-- A fade clock value from its exact sum; past the limit of R17 it is a free value (assumption 1). -/
def fadeClockValue (x : Nat) : Nat :=
  if x ≤ Config.maxFadeClock then x else (Config.fadeClockPastLimit x).toNat

/-! ### Desks -/

/-- What belongs to one desk link. -/
def State.desk (s : State) : Desk → DeskUnit
  | .A => s.deskA
  | .B => s.deskB

/-- The state with one desk unit replaced. -/
def State.setDesk (s : State) (d : Desk) (u : DeskUnit) : State :=
  match d with
  | .A => { s with deskA := u }
  | .B => { s with deskB := u }

/-- The state with one desk's receiver replaced. -/
def State.setReceiver (s : State) (d : Desk) (r : Receiver) : State :=
  s.setDesk d { s.desk d with receiver := r }

/-- The state with one desk's monitor replaced. -/
def State.setMonitor (s : State) (d : Desk) (m : Monitor) : State :=
  s.setDesk d { s.desk d with monitor := m }

/-- The state with one desk's command buffer and reply list replaced. -/
def State.setPort (s : State) (d : Desk) (p : Port) : State :=
  s.setDesk d { s.desk d with port := p }

/-- The state with one desk's command buffer replaced. -/
def State.setBuffer (s : State) (d : Desk) (b : Buffer) : State :=
  s.setPort d { (s.desk d).port with buffer := b }

/-- The state with one desk's reply list replaced. -/
def State.setReplies (s : State) (d : Desk) (rs : List Reply) : State :=
  s.setPort d { (s.desk d).port with replies := rs }

/-! ### The other blocks -/

/-- The state with one playback replaced. -/
def State.setPlayback (s : State) (p : Fin 6) (pb : Playback) : State :=
  { s with playbacks := s.playbacks.set p pb }

/-- The state with one cue list replaced. -/
def State.setList (s : State) (l : Fin 8) (cues : CueList) : State :=
  { s with lists := s.lists.set l cues }

/-- The state with one rack transmitter replaced. -/
def State.setLink (s : State) (l : Fin 4) (t : Transmitter) : State :=
  { s with links := s.links.set l t }

/-- The state with one contact replaced. -/
def State.setContact (s : State) (c : Fin 4) (x : Contact) : State :=
  { s with triggers := { s.triggers with contacts := s.triggers.contacts.set c x } }

/-- The state with one cue clock replaced. -/
def State.setClock (s : State) (c : Fin 3) (x : CueClock) : State :=
  { s with triggers := { s.triggers with clocks := s.triggers.clocks.set c x } }

/-- The state with one level watch replaced. -/
def State.setWatch (s : State) (w : Fin 8) (x : Watch) : State :=
  { s with triggers := { s.triggers with watches := s.triggers.watches.set w x } }

/-- The state with one route replaced. -/
def State.setRoute (s : State) (r : Fin 16) (x : Route) : State :=
  { s with triggers := { s.triggers with routes := s.triggers.routes.set r x } }

/-- The state with the held-request list replaced. -/
def State.setHeld (s : State) (h : List Held) : State :=
  { s with level := { s.level with held := h } }

/-- The state with the staged swap replaced. -/
def State.setStaged (s : State) (x : Option Staged) : State :=
  { s with level := { s.level with staged := x } }

/-- The state with the switch states replaced. -/
def State.setSwitches (s : State) (t : Table Bool 1536) : State :=
  { s with patch := { s.patch with switches := t } }

/-- The state with the command processor's own state replaced. -/
def State.setProcessor (s : State) (p : ProcessorState) : State :=
  { s with processor := { s.processor with state := p } }

/-- The ms from one show-clock value to a later one, modulo 2^32 (R53). -/
def elapsed (now since : Time) : Nat := (now - since).toNat

end Sys2Proof.Machine
end

