-- ==== Sys2Proof/Machine/Flags.lean ====
section
/-! DEFINITION. The report unit: event flags, report mask and report queue (R164 to R168), and the four
flags of a reply (R169). -/

namespace Sys2Proof.Machine

/-- The numeric code of an event kind (R180). -/
def EventKind.code : EventKind → Nat
  | .playbackGo => 1
  | .playbackDone => 2
  | .playbackEnd => 3
  | .linkMissing => 4
  | .deskLost => 5
  | .deskBack => 6
  | .swapDone => 7
  | .contact => 8
  | .clock => 9
  | .watch => 10
  | .taskRefused => 11
  | .setSkipped => 12
  | .storeDone => 13
  | .storeFailed => 14

/-- Event kind k is bit k − 1 of a flags or mask field (R178). -/
def EventKind.bit (k : EventKind) : Nat := k.code - 1

/-- The kinds offered to the route table (R142, section 10.2). -/
def EventKind.routable : EventKind → Bool
  | .playbackGo | .playbackDone | .deskLost | .deskBack | .swapDone | .contact | .clock | .watch => true
  | .playbackEnd | .linkMissing | .taskRefused | .setSkipped | .storeDone | .storeFailed => false

/-- A report joins the queue, or is dropped with the overrun flag set when the queue is full (R165). -/
def Reports.append (r : Reports) (x : Report) : Reports :=
  if r.queue.length < Config.reportCapacity then { r with queue := r.queue ++ [x] }
  else { r with overrun := true }

/-- Steps 1 and 2 of R164: the kind's flag is set, and a report is made if the mask enables the kind. -/
def Reports.take (r : Reports) (e : Event) (now : Time) : Reports :=
  let flagged := { r with flags := r.flags ||| BitVec.twoPow 14 e.kind.bit }
  if r.mask.getLsbD e.kind.bit then flagged.append ⟨e, now⟩ else flagged

/-- The report unit takes a raised event (R164, steps 1 and 2). -/
def State.report (e : Event) (s : State) : State :=
  { s with reports := s.reports.take e s.showClock }

/-- Whether the show memory is STORING (R170). -/
def ShowMemory.isStoring : ShowMemory → Bool
  | .storing _ _ => true
  | .valid _ | .invalid => false

/-- Whether the show memory is VALID (R170). -/
def ShowMemory.isValid : ShowMemory → Bool
  | .valid _ => true
  | .storing _ _ | .invalid => false

/-- A flag's bit in a byte. -/
def flagBit (i : Nat) (b : Bool) : Byte := if b then BitVec.twoPow 8 i else 0

/-- The flags byte of a reply made now: bit 0 REPORTS WAITING, bit 1 OVERRUN, bit 2 MEMORY INVALID,
bit 3 STORING (R169, R176). -/
def replyFlags (s : State) : Byte :=
  flagBit 0 (!s.reports.queue.isEmpty) ||| flagBit 1 s.reports.overrun |||
    flagBit 2 (!s.memory.isValid) ||| flagBit 3 s.memory.isStoring

/-- The fourteen event flags and, in bit 15, the overrun flag, as CLEAR FLAGS carries them (R178). DESIGN CHOICE
(assumption 27): R178 does not say what bit 14 holds in a reply, and it is sent as 0. -/
def flagsField (r : Reports) : Half :=
  r.flags.zeroExtend 16 ||| (if r.overrun then BitVec.twoPow 16 15 else 0)

/-- TAKE REPORTS (R166): a count of 0 is taken as 1 and a count above 8 as 8. -/
def takeCount (count : Byte) : Nat := clamp 1 8 count.toNat

/-- CLEAR FLAGS (R167): the selected event flags and, by bit 15, the overrun flag are cleared. -/
def Reports.clear (r : Reports) (selection : Half) : Reports :=
  { r with
    flags := r.flags &&& ~~~(selection.setWidth 14)
    overrun := r.overrun && !selection.getLsbD 15 }

end Sys2Proof.Machine
end

