-- ==== Sys2Proof/Machine/Operands.lean ====
section
/-! DEFINITION. The operand forms: numeric codes of the named values (R180), the encodings of optional
fields (R178), the parameter layouts of every request in both directions (R179) and the byte encodings
of reply data (R178). -/

namespace Sys2Proof.Machine

/-! ### Codes of the named values (R180) -/

def Result.code : Result → Nat
  | .done => 0
  | .started => 1
  | .busy => 2
  | .notPermitted => 3
  | .badRequest => 4
  | .outOfRange => 5
  | .noSuch => 6
  | .full => 7
  | .wrongState => 8
  | .endOfList => 9

def ClockMode.code : ClockMode → Nat
  | .oneShot => 0
  | .repeat => 1
  | .free => 2

def ClockMode.ofCode : Nat → Option ClockMode
  | 0 => some .oneShot
  | 1 => some .repeat
  | 2 => some .free
  | _ => none

def ClockState.code : ClockState → Nat
  | .stopped => 0
  | .running => 1
  | .stopping => 2

def Edge.code : Edge → Nat
  | .off => 0
  | .rising => 1
  | .falling => 2
  | .both => 3

def Edge.ofCode : Nat → Option Edge
  | 0 => some .off
  | 1 => some .rising
  | 2 => some .falling
  | 3 => some .both
  | _ => none

def Condition.code : Condition → Nat
  | .above => 0
  | .below => 1

def Condition.ofCode : Nat → Option Condition
  | 0 => some .above
  | 1 => some .below
  | _ => none

def WatchState.code : WatchState → Nat
  | .off => 0
  | .priming => 1
  | .clear => 2
  | .met => 3

def LossAction.code : LossAction → Nat
  | .hold => 0
  | .drop => 1
  | .fade => 2

def LossAction.ofCode : Nat → Option LossAction
  | 0 => some .hold
  | 1 => some .drop
  | 2 => some .fade
  | _ => none

def Merge.code : Merge → Nat
  | .htp => 0
  | .off => 1

def Merge.ofCode : Nat → Option Merge
  | 0 => some .htp
  | 1 => some .off
  | _ => none

def Rights.code : Rights → Nat
  | .full => 0
  | .playback => 1
  | .none => 2

def Rights.ofCode : Nat → Option Rights
  | 0 => some .full
  | 1 => some .playback
  | 2 => some .none
  | _ => Option.none

def DeskState.code : DeskState → Nat
  | .absent => 0
  | .active => 1
  | .lost => 2

def PlaybackState.code : PlaybackState → Nat
  | .empty => 0
  | .idle => 1
  | .fading => 2
  | .waiting => 3
  | .paused => 4

/-- A desk is 1 for Desk A and 2 for Desk B (R178). -/
def deskCode : Desk → Nat
  | .A => 1
  | .B => 2

def deskOfCode : Nat → Option Desk
  | 1 => some .A
  | 2 => some .B
  | _ => none

def Method.code : Method → Nat
  | .nextScan => 0
  | .atDark => 1
  | .atGo _ => 2
  | .onTask => 3

def Buffer.code : Buffer → Nat
  | .empty => 0
  | .waiting _ => 1
  | .taken _ => 2
  | .answering _ => 3

def ShowMemory.code : ShowMemory → Nat
  | .valid _ => 0
  | .invalid => 1
  | .storing _ _ => 2

def Law.code : Law → Nat
  | .linear => 0
  | .curve _ => 1
  | .switch _ _ => 2

/-- The enabled fields accept only 0 (no) and 1 (yes) (R178). -/
def yesNo : Nat → Option Bool
  | 0 => some false
  | 1 => some true
  | _ => none

/-- A route's source kind and its subject, read from their codes (R142, R180). -/
def Source.ofCode (kind subject : Nat) : Option Source :=
  match kind with
  | 1 => (number 6 subject).map .playbackGo
  | 2 => (number 6 subject).map .playbackDone
  | 5 => (deskOfCode subject).map .deskLost
  | 6 => (deskOfCode subject).map .deskBack
  | 7 => some .swapDone
  | 8 => (number 4 subject).map .contact
  | 9 => (number 3 subject).map .clock
  | 10 => (number 8 subject).map .watch
  | _ => none

/-- The event kind a source names. -/
def Source.kind : Source → EventKind
  | .playbackGo _ => .playbackGo
  | .playbackDone _ => .playbackDone
  | .deskLost _ => .deskLost
  | .deskBack _ => .deskBack
  | .swapDone => .swapDone
  | .contact _ => .contact
  | .clock _ => .clock
  | .watch _ => .watch

/-- The subject a source requires, none for SWAP DONE (R142). -/
def Source.subject : Source → Option Nat
  | .playbackGo p | .playbackDone p => some (numbered p)
  | .deskLost d | .deskBack d => some (deskCode d)
  | .swapDone => none
  | .contact c => some (numbered c)
  | .clock c => some (numbered c)
  | .watch w => some (numbered w)

/-- A task kind and its target, read from their codes (R142, R180). -/
def Task.ofCode (kind target : Nat) : Option Task :=
  match kind with
  | 1 => (number 6 target).map .go
  | 2 => (number 6 target).map .pause
  | 3 => (number 6 target).map .resume
  | 4 => (number 6 target).map .release
  | 5 => (number 3 target).map .start
  | 6 => (number 3 target).map .continue
  | 7 => (number 3 target).map .stop
  | 8 => (number 3 target).map .stopAtMatch
  | 9 => some .blackoutOn
  | 10 => some .blackoutOff
  | 11 => some .swapNow
  | _ => none

def Task.code : Task → Nat
  | .go _ => 1
  | .pause _ => 2
  | .resume _ => 3
  | .release _ => 4
  | .start _ => 5
  | .continue _ => 6
  | .stop _ => 7
  | .stopAtMatch _ => 8
  | .blackoutOn => 9
  | .blackoutOff => 10
  | .swapNow => 11

/-- The target of a task, none for BLACKOUT ON, BLACKOUT OFF and SWAP NOW (R142). -/
def Task.target : Task → Option Nat
  | .go p | .pause p | .resume p | .release p => some (numbered p)
  | .start c | .continue c | .stop c | .stopAtMatch c => some (numbered c)
  | .blackoutOn | .blackoutOff | .swapNow => none

/-! ### Bytes of the fields, high byte first (R176) -/

/-- The two bytes of a two-byte field. -/
def halfBytes (x : Half) : List Byte := [x.extractLsb' 8 8, x.extractLsb' 0 8]

/-- The four bytes of a four-byte field. -/
def quadBytes (x : Quad) : List Byte :=
  [x.extractLsb' 24 8, x.extractLsb' 16 8, x.extractLsb' 8 8, x.extractLsb' 0 8]

/-- The two-byte field of two bytes. -/
def half (hi lo : Byte) : Half := hi ++ lo

/-- The four-byte field of four bytes. -/
def quad (b3 b2 b1 b0 : Byte) : Quad := (b3 ++ b2) ++ (b1 ++ b0)

/-! ### Characters and the frames the part sends (R174, R175) -/

/-- The eleven bits of a character in the order they are sent: the start bit 0, the data byte with its
least significant bit first, the mark bit and the stop bit (R46, R174). -/
def Character.bits (x : Character) : List Bool :=
  false :: ((List.range 8).map fun i => x.data.getLsbD i) ++ [x.mark, x.stopGood]

/-- The data byte of a header character: the frame kind in its upper four bits and the address in its
lower four (R174). -/
def headerOf (kind address : Nat) : Byte := BitVec.ofNat 8 (kind * 16 + address)

/-- The characters of a frame that the part sends: the header with its mark set and every other character
unmarked, all with stop bit 1 (R175). -/
def sentFrame (header : Byte) (bytes : List Byte) : List Character :=
  ⟨header, true, true⟩ :: bytes.map fun b => ⟨b, false, true⟩

/-! ### Request codes and parameter layouts (R179) -/

/-- The request code of a request. -/
def Request.code : Request → Byte
  | .go .. => 16
  | .goto .. => 17
  | .back .. => 18
  | .pause .. => 19
  | .resume .. => 20
  | .release .. => 21
  | .loadList .. => 22
  | .unload .. => 23
  | .setMaster .. => 24
  | .setRate .. => 25
  | .setPlaybackTimes .. => 26
  | .writeCue .. => 32
  | .deleteCue .. => 33
  | .clearList .. => 34
  | .setCircuit .. => 48
  | .copyBank .. => 49
  | .clearBank .. => 50
  | .selectBank .. => 51
  | .cancelSwap => 52
  | .loadLaw .. => 64
  | .park .. => 65
  | .unpark .. => 66
  | .unparkAll => 67
  | .setGrandMaster .. => 68
  | .blackout .. => 69
  | .setScan .. => 80
  | .setDesk .. => 81
  | .setLink .. => 82
  | .setContact .. => 96
  | .setClock .. => 97
  | .clockAction .. => 98
  | .setWatch .. => 99
  | .setRoute .. => 100
  | .takeReports .. => 112
  | .setReportMask .. => 113
  | .clearFlags .. => 114
  | .store => 120
  | .restart => 121
  | .readStatus => 128
  | .readDesk .. => 129
  | .readPlayback .. => 130
  | .readChannel .. => 131
  | .readCircuit .. => 132
  | .readCue .. => 133
  | .readBankEntry .. => 134
  | .readLaw .. => 135
  | .readTriggers => 136

/-- The parameter bytes of a request. -/
def Request.params : Request → List Byte
  | .go p | .back p | .pause p | .resume p | .release p | .unload p => [p]
  | .goto p cue ovr => [p] ++ halfBytes cue ++ halfBytes ovr
  | .loadList p l => [p, l]
  | .setMaster p m => [p, m]
  | .setRate p r => [p] ++ halfBytes r
  | .setPlaybackTimes p rel bck => [p] ++ halfBytes rel ++ halfBytes bck
  | .writeCue l cue ut dt ud dd fo li n es =>
    [l] ++ halfBytes cue ++ halfBytes ut ++ halfBytes dt ++ halfBytes ud ++ halfBytes dd ++
      halfBytes fo ++ halfBytes li ++ halfBytes n ++ es
  | .deleteCue l cue => [l] ++ halfBytes cue
  | .clearList l => [l]
  | .setCircuit b c src prop law pre top =>
    [b] ++ halfBytes c ++ halfBytes src ++ [prop, law, pre, top]
  | .copyBank src dst => [src, dst]
  | .clearBank b => [b]
  | .selectBank b m p => [b, m, p]
  | .cancelSwap => []
  | .loadLaw l k body => [l, k] ++ body
  | .park c level => halfBytes c ++ [level]
  | .unpark c => halfBytes c
  | .unparkAll => []
  | .setGrandMaster x => [x]
  | .blackout x => [x]
  | .setScan x => [x]
  | .setDesk d timeout act fade merge rights =>
    [d] ++ halfBytes timeout ++ [act] ++ halfBytes fade ++ [merge, rights]
  | .setLink l e m => [l, e, m]
  | .setContact c e t => [c, e, t]
  | .setClock c m cmp ld => [c, m] ++ quadBytes cmp ++ quadBytes ld
  | .clockAction c a => [c, a]
  | .setWatch w c cond thr en => [w] ++ halfBytes c ++ [cond, thr, en]
  | .setRoute r en sk ss tk tt => [r, en, sk, ss, tk, tt]
  | .takeReports n => [n]
  | .setReportMask m => halfBytes m
  | .clearFlags x => halfBytes x
  | .store | .restart | .readStatus | .readTriggers => []
  | .readDesk d c => [d, c]
  | .readPlayback p c => [p] ++ halfBytes c
  | .readChannel c => halfBytes c
  | .readCircuit c => halfBytes c
  | .readCue l c => [l] ++ halfBytes c
  | .readBankEntry b c => [b] ++ halfBytes c
  | .readLaw l => [l]

/-- What checks 2 and 3 of R152 find in a request code and its parameters. -/
inductive Parsed where
  | request (r : Request)
  | unknownCode
  | badLength
  deriving DecidableEq, Repr

/-- The parameter fields of one request by its layout, none when the length does not suit it (R154,
R179). LOAD LAW has two lengths and WRITE CUE a least length. -/
def layout (code : Nat) (params : List Byte) : Option Request :=
  match code with
  | 16 => match params with | [p] => some (.go p) | _ => none
  | 17 => match params with | [p, a, b, c, d] => some (.goto p (half a b) (half c d)) | _ => none
  | 18 => match params with | [p] => some (.back p) | _ => none
  | 19 => match params with | [p] => some (.pause p) | _ => none
  | 20 => match params with | [p] => some (.resume p) | _ => none
  | 21 => match params with | [p] => some (.release p) | _ => none
  | 22 => match params with | [p, l] => some (.loadList p l) | _ => none
  | 23 => match params with | [p] => some (.unload p) | _ => none
  | 24 => match params with | [p, m] => some (.setMaster p m) | _ => none
  | 25 => match params with | [p, a, b] => some (.setRate p (half a b)) | _ => none
  | 26 => match params with
    | [p, a, b, c, d] =>
      some (.setPlaybackTimes p (half a b) (half c d))
    | _ => none
  | 32 => match params with
    | l :: a :: b :: c :: d :: e :: f :: g :: h :: i :: j :: k :: m :: n :: o :: p :: q :: es =>
      some (.writeCue l (half a b) (half c d) (half e f) (half g h) (half i j) (half k m) (half n o) (half p q) es)
    | _ => none
  | 33 => match params with | [l, a, b] => some (.deleteCue l (half a b)) | _ => none
  | 34 => match params with | [l] => some (.clearList l) | _ => none
  | 48 => match params with
    | [b, c1, c0, s1, s0, prop, law, pre, top] =>
      some (.setCircuit b (half c1 c0) (half s1 s0) prop law pre top)
    | _ => none
  | 49 => match params with | [src, dst] => some (.copyBank src dst) | _ => none
  | 50 => match params with | [b] => some (.clearBank b) | _ => none
  | 51 => match params with | [b, m, p] => some (.selectBank b m p) | _ => none
  | 52 => match params with | [] => some .cancelSwap | _ => none
  | 64 => match params with
    | l :: k :: body =>
      if body.length = 17 ∨ body.length = 4 then some (.loadLaw l k body) else none
    | _ => none
  | 65 => match params with | [a, b, level] => some (.park (half a b) level) | _ => none
  | 66 => match params with | [a, b] => some (.unpark (half a b)) | _ => none
  | 67 => match params with | [] => some .unparkAll | _ => none
  | 68 => match params with | [x] => some (.setGrandMaster x) | _ => none
  | 69 => match params with | [x] => some (.blackout x) | _ => none
  | 80 => match params with | [x] => some (.setScan x) | _ => none
  | 81 => match params with
    | [d, t1, t0, act, f1, f0, merge, rights] =>
      some (.setDesk d (half t1 t0) act (half f1 f0) merge rights)
    | _ => none
  | 82 => match params with | [l, e, m] => some (.setLink l e m) | _ => none
  | 96 => match params with | [c, e, t] => some (.setContact c e t) | _ => none
  | 97 => match params with
    | [c, m, a, b, d, e, f, g, h, i] =>
      some (.setClock c m (quad a b d e) (quad f g h i))
    | _ => none
  | 98 => match params with | [c, a] => some (.clockAction c a) | _ => none
  | 99 => match params with
    | [w, a, b, cond, thr, en] =>
      some (.setWatch w (half a b) cond thr en)
    | _ => none
  | 100 => match params with
    | [r, en, sk, ss, tk, tt] =>
      some (.setRoute r en sk ss tk tt)
    | _ => none
  | 112 => match params with | [n] => some (.takeReports n) | _ => none
  | 113 => match params with | [a, b] => some (.setReportMask (half a b)) | _ => none
  | 114 => match params with | [a, b] => some (.clearFlags (half a b)) | _ => none
  | 120 => match params with | [] => some .store | _ => none
  | 121 => match params with | [] => some .restart | _ => none
  | 128 => match params with | [] => some .readStatus | _ => none
  | 129 => match params with | [d, c] => some (.readDesk d c) | _ => none
  | 130 => match params with | [p, a, b] => some (.readPlayback p (half a b)) | _ => none
  | 131 => match params with | [a, b] => some (.readChannel (half a b)) | _ => none
  | 132 => match params with | [a, b] => some (.readCircuit (half a b)) | _ => none
  | 133 => match params with | [l, a, b] => some (.readCue l (half a b)) | _ => none
  | 134 => match params with | [b, c1, c0] => some (.readBankEntry b (half c1 c0)) | _ => none
  | 135 => match params with | [l] => some (.readLaw l) | _ => none
  | 136 => match params with | [] => some .readTriggers | _ => none
  | _ => none

/-- The codes of the catalogue (R179). -/
def knownCodes : List Nat :=
  [16, 17, 18, 19, 20, 21, 22, 23, 24, 25, 26, 32, 33, 34, 48, 49, 50, 51, 52, 64, 65, 66, 67, 68, 69,
    80, 81, 82, 96, 97, 98, 99, 100, 112, 113, 114, 120, 121, 128, 129, 130, 131, 132, 133, 134, 135, 136]

/-- Checks 2 and 3 of R152. -/
def parse (code : Byte) (params : List Byte) : Parsed :=
  if code.toNat ∈ knownCodes then
    match layout code.toNat params with
    | some r => .request r
    | none => .badLength
  else .unknownCode

/-- The raw entries of a WRITE CUE: channel (two bytes) and cue level (one byte) (R179). -/
def rawEntries : List Byte → List (Nat × Byte)
  | a :: b :: level :: rest => ((half a b).toNat, level) :: rawEntries rest
  | _ => []

/-- The bytes of WRITE CUE entries. -/
def entryBytes (entries : List (Half × Byte)) : List Byte :=
  entries.flatMap fun e => halfBytes e.1 ++ [e.2]

/-! ### Fields of reply data (R178) -/

/-- A number in one byte. -/
def b1 (x : Nat) : List Byte := [BitVec.ofNat 8 x]

/-- A number in two bytes. -/
def b2 (x : Nat) : List Byte := halfBytes (BitVec.ofNat 16 x)

/-- A number in four bytes. -/
def b4 (x : Nat) : List Byte := quadBytes (BitVec.ofNat 32 x)

/-- A number in eight bytes. -/
def b8 (x : Nat) : List Byte := b4 (x / 2 ^ 32) ++ b4 x

/-- A yes or no item. -/
def bYes (b : Bool) : List Byte := [if b then 1 else 0]

/-- An optional item without a reserved value for absent: one byte of presence, then the item's own
bytes, sent as 0 when it is absent (R178, assumption 13). -/
def bOpt {α : Type} (width : α → List Byte) (zero : α) : Option α → List Byte
  | some x => 1 :: width x
  | none => 0 :: (width zero).map fun _ => 0

/-- A cue number, channel or list, 0 when absent. -/
def orZero : Option Nat → Nat
  | some x => x
  | none => 0

/-- A follow, 65,535 when absent. -/
def orFFFF : Option Nat → Nat
  | some x => x
  | none => 65535

end Sys2Proof.Machine
end

