-- ==== Sys2Proof/Machine/CueStore.lean ====
section
/-! DEFINITION. The cue store: lookups, tracked state, the three edits and READ CUE (R1 to R16). -/

namespace Sys2Proof.Machine

/-- What an owner makes of a request: the state after it, the outcome and the reply data. -/
structure Answer where
  state : State
  result : Result
  data : List Byte

/-- A refusal changes nothing and carries no data (R157). -/
def refuse (s : State) (r : Result) : Answer := ⟨s, r, []⟩

/-! ### Lookups (R11, R12) -/

/-- Cue n of a list. -/
def CueList.at (l : CueList) (n : Nat) : Option Cue := l.find? fun c => c.number == n

/-- The first cue of a list: the list is in ascending cue number (R1). -/
def CueList.first (l : CueList) : Option Cue := l.head?

/-- The next cue above n. -/
def CueList.above (l : CueList) (n : Nat) : Option Cue := l.find? fun c => decide (n < c.number)

/-- The cue below n: the one with the greatest number less than n. -/
def CueList.below (l : CueList) (n : Nat) : Option Cue :=
  (l.filter fun c => decide (c.number < n)).getLast?

/-- The level a cue gives to a channel, none when its entries do not include it. -/
def Cue.levelOf (c : Cue) (ch : Fin 768) : Option Byte :=
  (c.entries.find? fun e => e.channel == ch).map (·.level)

/-- The tracked state of cue n: for a channel, the level in the last cue at or below n whose entries
include it, and 0 if there is none (R12). -/
def CueList.tracked (l : CueList) (n : Nat) (ch : Fin 768) : Byte :=
  ((l.filter fun c => decide (c.number ≤ n)).reverse.findSome? fun c => c.levelOf ch).getD 0

/-! ### Totals (R5) -/

/-- The number of entries of a list. -/
def CueList.entryCount (l : CueList) : Nat := (l.map fun c => c.entries.length).sum

/-- The cue count over all eight lists. -/
def cueCount (lists : Table CueList 8) : Nat := (lists.rows.map List.length).sum

/-- The entry count over all eight lists. -/
def entryCount (lists : Table CueList 8) : Nat := (lists.rows.map CueList.entryCount).sum

/-! ### Edits -/

/-- A cue put into a list at the place its number gives, over any cue of that number (R8). -/
def CueList.put (c : Cue) : CueList → CueList
  | [] => [c]
  | x :: xs =>
    if c.number < x.number then c :: x :: xs
    else if c.number = x.number then c :: xs
    else x :: CueList.put c xs

/-- A list without the cue of number n (R9). -/
def CueList.remove (l : CueList) (n : Nat) : CueList := l.filter fun c => c.number != n

/-- Whether numbers are in strictly ascending order. -/
def ascending : List Nat → Bool
  | a :: b :: rest => decide (a < b) && ascending (b :: rest)
  | _ => true

/-- The entries of a cue from their channel numbers, none when a channel is not 1 to 768. -/
def readEntries : List (Nat × Byte) → Option (List Entry)
  | [] => some []
  | (ch, level) :: rest =>
    match number 768 ch, readEntries rest with
    | some c, some es => some (⟨c, level⟩ :: es)
    | _, _ => none

/-- Check 4 of R7: the cue record of a WRITE CUE, none when a field is out of range. A follow of
65,535 and a link of 0 stand for absent (R178). -/
def readCueRecord (cue upTime downTime upDelay downDelay follow link : Half)
    (entries : List (Nat × Byte)) : Option Cue :=
  if 1 ≤ cue.toNat ∧ cue.toNat ≤ Config.maxCueNumber ∧ upTime.toNat ≤ Config.maxTenths ∧
      downTime.toNat ≤ Config.maxTenths ∧ upDelay.toNat ≤ Config.maxTenths ∧
      downDelay.toNat ≤ Config.maxTenths ∧
      (follow.toNat = 65535 ∨ follow.toNat ≤ Config.maxTenths) ∧
      link.toNat ≤ Config.maxCueNumber then
    (readEntries entries).map fun es =>
      { number := cue.toNat
        upTime := upTime.toNat
        downTime := downTime.toNat
        upDelay := upDelay.toNat
        downDelay := downDelay.toNat
        follow := if follow.toNat = 65535 then none else some follow.toNat
        link := if link.toNat = 0 then none else some link.toNat
        entries := es }
  else none

/-- The number of entries freed by replacing a cue, 0 when none is present. -/
def freedEntries (old : Option Cue) : Nat :=
  match old with
  | some c => c.entries.length
  | none => 0

/-- The cue count after writing a cue over `old` (R5). -/
def cueCountAfter (lists : Table CueList 8) (old : Option Cue) : Nat :=
  cueCount lists + if old.isSome then 0 else 1

/-- The entry count after writing a cue over `old` (R5). -/
def entryCountAfter (lists : Table CueList 8) (old : Option Cue) (new : Cue) : Nat :=
  entryCount lists + new.entries.length - freedEntries old

/-- The two totals as a reply carries them. -/
def totalsData (lists : Table CueList 8) : List Byte := b2 (cueCount lists) ++ b2 (entryCount lists)

/-- A cue that passed every check of R7 is written into its list (R8). -/
def writeCheckedCue (l : Fin 8) (new : Cue) (s : State) : Answer :=
  let old := (s.lists.get l).at new.number
  if cueCountAfter s.lists old ≤ Config.maxCues ∧
      entryCountAfter s.lists old new ≤ Config.maxEntries then
    let s' := s.setList l ((s.lists.get l).put new)
    ⟨s', .done, b1 (if old.isSome then 1 else 0) ++ b2 (s'.lists.get l).length ++ totalsData s'.lists⟩
  else refuse s .full

/-- WRITE CUE at the cue store: the checks of R7 in order, then R8. -/
def ownerWriteCue (list : Byte) (cue upTime downTime upDelay downDelay follow link count : Half)
    (bytes : List Byte) (s : State) : Answer :=
  match number 8 list.toNat with
  | none => refuse s .noSuch
  | some l =>
    if bytes.length ≠ 3 * count.toNat then refuse s .badRequest
    else if !ascending ((rawEntries bytes).map (·.1)) then refuse s .badRequest
    else
      match readCueRecord cue upTime downTime upDelay downDelay follow link (rawEntries bytes) with
      | none => refuse s .outOfRange
      | some new => writeCheckedCue l new s

/-- DELETE CUE at the cue store (R9). -/
def ownerDeleteCue (list : Byte) (cue : Half) (s : State) : Answer :=
  match number 8 list.toNat with
  | none => refuse s .noSuch
  | some l =>
    if cue.toNat = 0 ∨ Config.maxCueNumber < cue.toNat then refuse s .outOfRange
    else if ((s.lists.get l).at cue.toNat).isNone then refuse s .noSuch
    else
      let s' := s.setList l ((s.lists.get l).remove cue.toNat)
      ⟨s', .done, b2 (s'.lists.get l).length ++ totalsData s'.lists⟩

/-- CLEAR LIST at the cue store (R10). -/
def ownerClearList (list : Byte) (s : State) : Answer :=
  match number 8 list.toNat with
  | none => refuse s .noSuch
  | some l =>
    let s' := s.setList l []
    ⟨s', .done, b2 (s.lists.get l).length ++ totalsData s'.lists⟩

/-! ### READ CUE (R15) -/

/-- A cue record as WRITE CUE carries it, from the cue number onward (R178, R179). -/
def cueBytes (c : Cue) : List Byte :=
  b2 c.number ++ b2 c.upTime ++ b2 c.downTime ++ b2 c.upDelay ++ b2 c.downDelay ++
    b2 (orFFFF c.follow) ++ b2 (orZero c.link) ++ b2 c.entries.length ++
    c.entries.flatMap fun e => b2 (numbered e.channel) ++ [e.level]

/-- The number of a cue that may be absent, 0 when it is. -/
def cueNumberBytes (c : Option Cue) : List Byte := b2 (orZero (c.map (·.number)))

/-- READ CUE at the cue store (R15). DESIGN CHOICE (assumption 26): R15 gives no order between its refusals, and
the list is checked first. -/
def ownerReadCue (list : Byte) (cue : Half) (s : State) : Answer :=
  match number 8 list.toNat with
  | none => refuse s .noSuch
  | some l =>
    let cues := s.lists.get l
    if Config.maxCueNumber < cue.toNat then refuse s .outOfRange
    else if cue.toNat = 0 then
      ⟨s, .done, b2 cues.length ++ b2 cues.entryCount ++ totalsData s.lists ++ cueNumberBytes cues.first⟩
    else
      match cues.at cue.toNat with
      | none => refuse s .noSuch
      | some c => ⟨s, .done, cueBytes c ++ cueNumberBytes (cues.above c.number)⟩

end Sys2Proof.Machine
end

