-- ==== Sys2Proof/Machine/Playbacks.lean ====
section
/-! DEFINITION. The playbacks: fade records, the fade clock, GO, GOTO, BACK, RELEASE, PAUSE, RESUME,
LOAD LIST, UNLOAD, the settings, the scan work and READ PLAYBACK (R17 to R45).

An operation that raises events takes `raise`, which reports one event and offers it to the routes: a
request raises with the whole route table behind it, a task with one firing less (R143). -/

namespace Sys2Proof.Machine

/-! ### Fade records (R22, R23) -/

/-- A delay and a time in tenths: the up pair or the down pair of a move (R23). -/
structure Pair where
  delay : Nat
  time : Nat
  deriving DecidableEq, Repr

/-- The distance between two levels. -/
def distance (a b : Nat) : Nat := (a - b) + (b - a)

/-- Row 3 of R22: the change after `x` µs of a move of `span` levels that takes `time` µs. -/
def fadeChange (span x time : Nat) : Nat := (span * x + time / 2) / time

/-- A fade record evaluated at fade clock value `c` (R22). -/
def FadeRecord.evaluate (c : Nat) (r : FadeRecord) : FadeRecord :=
  let e := c - r.origin
  if !r.moving then r
  else if e < r.delay then { r with level := r.start }
  else if r.time = 0 ∨ r.time ≤ e - r.delay then { r with level := r.target, moving := false }
  else
    let change := fadeChange (distance r.target r.start) (e - r.delay) r.time
    { r with level := if r.start < r.target then r.start + change else r.start - change }

/-- A new move set on a fade record at fade clock value `clock` (R23). -/
def FadeRecord.setMove (clock target : Nat) (up down : Pair) (r : FadeRecord) : FadeRecord :=
  let pair : Pair := if r.level < target then up else if target < r.level then down else ⟨0, 0⟩
  { level := r.level
    start := r.level
    target := target
    delay := pair.delay * Config.usPerTenth
    time := pair.time * Config.usPerTenth
    origin := clock
    moving := r.level != target }

/-! ### State of a playback (R18) -/

/-- Whether some fade record is moving. -/
def Playback.moving (pb : Playback) : Bool := pb.records.any (·.moving)

/-- The state set from R18 for a playback that is not paused; entering IDLE sets the fade clock to 0
(R20). -/
def Playback.settle (pb : Playback) : Playback :=
  match pb.loaded with
  | none => { pb with state := .empty }
  | some _ =>
    if pb.moving then { pb with state := .fading }
    else if pb.follow.isSome then { pb with state := .waiting }
    else { pb with state := .idle, clock := 0 }

/-- A playback in PAUSED is resumed first (R34). -/
def Playback.resumed (pb : Playback) : Playback :=
  if pb.state = .paused then pb.settle else pb

/-! ### Taking a GO, GOTO or BACK -/

/-- What taking a GO, GOTO or BACK does to a playback: the playback after it, its events in the order
they arise, and whether a GO has been taken, for an AT GO swap (R26). -/
structure Moved where
  playback : Playback
  events : List Event
  taken : Bool

/-- PLAYBACK DONE when no record is moving (R35). -/
def doneEvents (p : Fin 6) (pb : Playback) : List Event :=
  if pb.moving then [] else [⟨.playbackDone, numbered p, orZero pb.current⟩]

/-- The pending follow set by taking a cue (R26). -/
def followDue (clock : Nat) (c : Cue) : Option Nat :=
  c.follow.map fun f => fadeClockValue (clock + f * Config.usPerTenth)

/-- The moves that the entries of a cue set, in ascending channel (R26). -/
def cueMoves (clock : Nat) (c : Cue) (rs : Table FadeRecord 768) : Table FadeRecord 768 :=
  c.entries.foldl
    (fun rs e =>
      rs.set e.channel
        ((rs.get e.channel).setMove clock (expand e.level) ⟨c.upDelay, c.upTime⟩
          ⟨c.downDelay, c.downTime⟩))
    rs

/-- A move set on every channel (R30, R31, R32). -/
def moveAll (clock : Nat) (target : Fin 768 → Nat) (up down : Pair) (rs : Table FadeRecord 768) :
    Table FadeRecord 768 :=
  Table.zip (fun ch r => FadeRecord.setMove clock (target ch) up down r) (Table.indices 768) rs

/-- A playback whose moves are set goes to cue `current` with pending follow `follow`; PLAYBACK GO
arises, and PLAYBACK DONE if nothing is moving (R26, R35). -/
def Playback.went (p : Fin 6) (pb : Playback) (records : Table FadeRecord 768) (current : Option Nat)
    (follow : Option Nat) : Moved :=
  let pb' := { pb with records := records, current := current, follow := follow }.settle
  ⟨pb', ⟨.playbackGo, numbered p, orZero current⟩ :: doneEvents p pb', true⟩

/-- The list a playback has loaded, empty when it has none. -/
def Playback.list (lists : Table CueList 8) (pb : Playback) : CueList :=
  match pb.loaded with
  | some l => lists.get l
  | none => []

/-- The link of the current cue that names a missing cue (R25). -/
def missingLink (l : CueList) (current : Option Nat) : Option Nat :=
  match current.bind l.at with
  | some c => c.link.filter fun k => (l.at k).isNone
  | none => none

/-- The next cue of a list from the current cue (R25). -/
def nextCue (l : CueList) : Option Nat → Option Cue
  | none => l.first
  | some n =>
    match l.at n with
    | none => l.above n
    | some c =>
      match c.link with
      | none => l.above n
      | some k =>
        match l.at k with
        | some c' => some c'
        | none => l.above n

/-- LINK MISSING with the missing number as detail (R25). -/
def linkEvents (p : Fin 6) (missing : Option Nat) : List Event :=
  match missing with
  | some k => [⟨.linkMissing, numbered p, k⟩]
  | none => []

/-- A GO taken on its next cue (R26), or found to be at the end of the list (R27), by a playback that
is not EMPTY and has been resumed. -/
def Playback.takeGo (lists : Table CueList 8) (p : Fin 6) (pb : Playback) : Moved :=
  let l := pb.list lists
  let lm := linkEvents p (missingLink l pb.current)
  match nextCue l pb.current with
  | some c =>
    let m := pb.went p (cueMoves pb.clock c pb.records) (some c.number) (followDue pb.clock c)
    { m with events := lm ++ m.events }
  | none =>
    ⟨{ pb with follow := none }.settle, lm ++ [⟨.playbackEnd, numbered p, orZero pb.current⟩], false⟩

/-- A GOTO taken on cue `c` of the loaded list, with an optional override time (R30). -/
def Playback.takeGoto (lists : Table CueList 8) (p : Fin 6) (c : Cue) (override : Option Nat)
    (pb : Playback) : Moved :=
  let up : Pair := match override with
    | some t => ⟨0, t⟩
    | none => ⟨c.upDelay, c.upTime⟩
  let down : Pair := match override with
    | some t => ⟨0, t⟩
    | none => ⟨c.downDelay, c.downTime⟩
  let target := fun ch => expand ((pb.list lists).tracked c.number ch)
  pb.went p (moveAll pb.clock target up down pb.records) (some c.number) (followDue pb.clock c)

/-- A BACK taken from cue `n` (R31). -/
def Playback.takeBack (lists : Table CueList 8) (p : Fin 6) (n : Nat) (pb : Playback) : Moved :=
  match (pb.list lists).below n with
  | some c => pb.takeGoto lists p c (some pb.backTime)
  | none =>
    pb.went p (moveAll pb.clock (fun _ => 0) ⟨0, pb.backTime⟩ ⟨0, pb.backTime⟩ pb.records) none none

/-- A RELEASE taken by a playback that is not EMPTY and has been resumed (R32). -/
def Playback.takeRelease (pb : Playback) : Playback :=
  { pb with
    records := moveAll pb.clock (fun _ => 0) ⟨0, pb.releaseTime⟩ ⟨0, pb.releaseTime⟩ pb.records
    current := none
    follow := none }.settle

/-! ### Scan work (R20, R21, R29) -/

/-- The fade clock's advance over a scan of `length` ms (R20). -/
def Playback.advanced (length : Nat) (pb : Playback) : Playback :=
  { pb with clock := fadeClockValue (pb.clock + length * 10 * pb.rate) }

/-- Whether a pending follow is due (R21, step 2). -/
def Playback.followIsDue (pb : Playback) : Bool :=
  match pb.follow with
  | some due => decide (due ≤ pb.clock)
  | none => false

/-- Step 2: the automatic GO, when the follow is due (R29). -/
def Playback.autoGo (lists : Table CueList 8) (p : Fin 6) (pb : Playback) : Moved :=
  if pb.followIsDue then pb.takeGo lists p else ⟨pb, [], false⟩

/-- Step 3: every moving record evaluated at the clock (R22). -/
def Playback.evaluated (pb : Playback) : Playback :=
  { pb with records := pb.records.map (FadeRecord.evaluate pb.clock) }

/-- The scan work of a playback over a scan of `length` ms (R21): the playback after it, with the
events that arose, and whether an automatic GO was taken. -/
def Playback.scanWork (lists : Table CueList 8) (length : Nat) (p : Fin 6) (pb : Playback) :
    Playback × Bool :=
  if pb.state = .fading ∨ pb.state = .waiting then
    let m := (pb.advanced length).autoGo lists p
    let pb3 := m.playback.evaluated
    let completed := if m.playback.moving then doneEvents p pb3 else []
    ({ pb3.settle with scanEvents := m.events ++ completed }, m.taken)
  else ({ pb with scanEvents := [] }, false)

/-- The contribution of a playback for each channel (R42). -/
def Playback.contribution (master : Byte) (pb : Playback) : Table Nat 768 :=
  pb.records.map fun r => scaleBy master r.level

/-! ### Requests and tasks on a playback -/

/-- An AT GO swap staged for this playback becomes due when a GO, GOTO or BACK is taken on it (R69). -/
def State.goTaken (p : Fin 6) (s : State) : State :=
  match s.level.staged with
  | some st => if st.method = .atGo p then s.setStaged (some { st with due := true }) else s
  | none => s

/-- Events raised in the order they arose. -/
def raiseAll (raise : Event → State → State) (es : List Event) (s : State) : State :=
  es.foldl (fun s e => raise e s) s

/-- A GO, GOTO or BACK made on the state: the playback's whole change first, then its events in order
(assumption 5). -/
def applyMoved (raise : Event → State → State) (p : Fin 6) (m : Moved) (s : State) : State :=
  let s1 := s.setPlayback p m.playback
  raiseAll raise m.events (if m.taken then s1.goTaken p else s1)

/-- GO by command or by route (R28). -/
def goPlayback (raise : Event → State → State) (p : Fin 6) (s : State) : State × Result :=
  let pb := s.playbacks.get p
  if pb.state = .empty then (s, .wrongState)
  else
    let m := pb.resumed.takeGo s.lists p
    (applyMoved raise p m s, if m.taken then .done else .endOfList)

/-- GOTO (R30). An override of 65,535 stands for absent (R178). -/
def gotoPlayback (raise : Event → State → State) (p : Fin 6) (cue override : Half) (s : State) :
    State × Result :=
  let pb := s.playbacks.get p
  let ovr := if override.toNat = 65535 then none else some override.toNat
  if pb.state = .empty then (s, .wrongState)
  else if cue.toNat = 0 ∨ Config.maxCueNumber < cue.toNat ∨ Config.maxTenths < orZero ovr then
    (s, .outOfRange)
  else
    match (pb.list s.lists).at cue.toNat with
    | none => (s, .noSuch)
    | some c => (applyMoved raise p (pb.resumed.takeGoto s.lists p c ovr) s, .done)

/-- BACK (R31). -/
def backPlayback (raise : Event → State → State) (p : Fin 6) (s : State) : State × Result :=
  let pb := s.playbacks.get p
  if pb.state = .empty then (s, .wrongState)
  else
    match pb.current with
    | none => (s, .endOfList)
    | some n => (applyMoved raise p (pb.resumed.takeBack s.lists p n) s, .done)

/-- RELEASE (R32). In EMPTY it changes nothing. -/
def releasePlayback (p : Fin 6) (s : State) : State × Result :=
  let pb := s.playbacks.get p
  if pb.state = .empty then (s, .done) else (s.setPlayback p pb.resumed.takeRelease, .done)

/-- PAUSE (R33). -/
def pausePlayback (p : Fin 6) (s : State) : State × Result :=
  let pb := s.playbacks.get p
  if pb.state = .fading ∨ pb.state = .waiting then
    (s.setPlayback p { pb with state := .paused }, .done)
  else (s, .wrongState)

/-- RESUME (R34). -/
def resumePlayback (p : Fin 6) (s : State) : State × Result :=
  let pb := s.playbacks.get p
  if pb.state = .paused then (s.setPlayback p pb.settle, .done) else (s, .wrongState)

/-- LOAD LIST (R37). -/
def loadListPlayback (p : Fin 6) (list : Byte) (s : State) : State × Result :=
  let pb := s.playbacks.get p
  match number 8 list.toNat with
  | none => (s, .noSuch)
  | some l =>
    if pb.state = .empty ∨ pb.state = .idle then
      (s.setPlayback p { pb with loaded := some l, current := none, state := .idle, clock := 0 }, .done)
    else (s, .wrongState)

/-- UNLOAD (R38). In EMPTY it changes nothing. -/
def unloadPlayback (p : Fin 6) (s : State) : State × Result :=
  let pb := s.playbacks.get p
  if pb.state = .empty then (s, .done)
  else if pb.state = .idle then
    (s.setPlayback p
      { pb with
        records := Table.fill 768 .cleared
        loaded := none
        current := none
        follow := none
        clock := 0
        state := .empty }, .done)
  else (s, .wrongState)

/-- SET MASTER (R39). -/
def setMasterPlayback (p : Fin 6) (master : Byte) (s : State) : State × Result :=
  (s.setPlayback p { s.playbacks.get p with master := master }, .done)

/-- SET RATE (R40): clamped to 25 to 400. -/
def setRatePlayback (p : Fin 6) (rate : Half) (s : State) : State × Result :=
  (s.setPlayback p { s.playbacks.get p with rate := clamp 25 400 rate.toNat }, .done)

/-- SET PLAYBACK TIMES (R41). -/
def setTimesPlayback (p : Fin 6) (releaseTime backTime : Half) (s : State) : State × Result :=
  if Config.maxTenths < releaseTime.toNat ∨ Config.maxTenths < backTime.toNat then (s, .outOfRange)
  else
    (s.setPlayback p
      { s.playbacks.get p with releaseTime := releaseTime.toNat, backTime := backTime.toNat }, .done)

/-- A list number that may be absent, 0 when it is. -/
def listNumber (l : Option (Fin 8)) : Nat := orZero (l.map numbered)

/-- State, loaded list and current cue, as every DONE reply of a playback request carries them (R24). -/
def playbackData (pb : Playback) : List Byte :=
  b1 pb.state.code ++ b1 (listNumber pb.loaded) ++ b2 (orZero pb.current)

/-- A request to the playback numbered `n`: a number outside 1 to 6 is refused NO SUCH, and a DONE
reply carries the playback as it stands after the request (R24). DESIGN CHOICE (assumption 26): R24 and R41 give
no order between NO SUCH and OUT OF RANGE for SET PLAYBACK TIMES, and the playback is checked first. -/
def playbackRequest (n : Byte) (s : State) (take : Fin 6 → State × Result) : Answer :=
  match number 6 n.toNat with
  | none => refuse s .noSuch
  | some p =>
    let r := take p
    ⟨r.1, r.2, if r.2 = .done then playbackData (r.1.playbacks.get p) else []⟩

/-- SET RATE with its reply, which carries the rate as taken besides (R40). That the rate stands after the
three items of R24 is the model's choice (assumption 13). -/
def ownerSetRate (n : Byte) (rate : Half) (s : State) : Answer :=
  match number 6 n.toNat with
  | none => refuse s .noSuch
  | some p =>
    let r := setRatePlayback p rate s
    ⟨r.1, r.2, playbackData (r.1.playbacks.get p) ++ b2 (r.1.playbacks.get p).rate⟩

/-! ### READ PLAYBACK (R43) -/

/-- A whole fade record as R19 gives it. -/
def recordBytes (r : FadeRecord) : List Byte :=
  b2 r.level ++ b2 r.start ++ b2 r.target ++ b4 r.delay ++ b4 r.time ++ b8 r.origin ++ bYes r.moving

/-- The playbacks a READ PLAYBACK is answered from: as at the last compute end, with every request
taken since then applied (R43). -/
def playbacksSeen (s : State) : Table Playback 6 :=
  match s.level.phase with
  | .computing => s.level.beforeScan
  | .waiting => s.playbacks

/-- The items of a READ PLAYBACK reply before the fade record (R43). -/
def playbackItems (pb : Playback) : List Byte :=
  playbackData pb ++ b8 pb.clock ++ bOpt b8 0 pb.follow ++ [pb.master] ++ b2 pb.rate ++
    b2 pb.releaseTime ++ b2 pb.backTime ++ b2 (pb.records.count (·.moving))

/-- READ PLAYBACK (R43). DESIGN CHOICE (assumption 26): R43 gives no order between its refusals, and the playback
is checked first. -/
def ownerReadPlayback (n : Byte) (channel : Half) (s : State) : Answer :=
  match number 6 n.toNat with
  | none => refuse s .noSuch
  | some p =>
    let pb := (playbacksSeen s).get p
    if channel.toNat = 0 then ⟨s, .done, playbackItems pb⟩
    else
      match number 768 channel.toNat with
      | none => refuse s .outOfRange
      | some ch => ⟨s, .done, playbackItems pb ++ recordBytes (pb.records.get ch)⟩

end Sys2Proof.Machine
end

