-- ==== Sys2Proof/Machine/Triggers.lean ====
section
/-! DEFINITION. The trigger unit: tasks and the route table, raising an event, contacts, cue clocks and
level watches, and its requests (R133 to R148). -/

namespace Sys2Proof.Machine

/-! ### Cue clocks (R136 to R138) -/

/-- The four actions on a cue clock (R138). -/
inductive ClockAction where
  | start
  | continue
  | stop
  | stopAtMatch
  deriving DecidableEq, Repr

/-- A clock action from its code (R180). -/
def ClockAction.ofCode : Nat → Option ClockAction
  | 0 => some .start
  | 1 => some .continue
  | 2 => some .stop
  | 3 => some .stopAtMatch
  | _ => none

/-- An action on a cue clock, none when it is refused (R138). A STOP taken before the millisecond's
owed advance leaves that advance unmade. -/
def CueClock.act (x : CueClock) : ClockAction → Option CueClock
  | .start => some { x with count := x.load, state := .running }
  | .continue => some { x with state := .running }
  | .stop => some { x with state := .stopped, owed := false }
  | .stopAtMatch =>
    match x.state with
    | .stopped => none
    | .running | .stopping => some { x with state := .stopping }

/-- A clock at its match, with the detail of its CLOCK event: 1 when the clock runs on and 0 when it
has stopped (R137). -/
def CueClock.matched (x : CueClock) : CueClock × Nat :=
  match x.state, x.mode with
  | .running, .oneShot => ({ x with count := x.compare, state := .stopped }, 0)
  | .running, .repeat => ({ x with count := x.load }, 1)
  | .running, .free => ({ x with count := x.compare }, 1)
  | .stopping, _ => ({ x with count := x.compare, state := .stopped }, 0)
  | .stopped, _ => (x, 0)

/-- One advance of a clock: the clock after it, with the detail of its CLOCK event when the advance
makes the count equal to compare (R136, R137). A stopped clock does not advance. -/
def CueClock.advance (x : CueClock) : CueClock × Option Nat :=
  let y := { x with owed := false }
  match x.state with
  | .stopped => (y, none)
  | .running | .stopping =>
    if x.count + 1 = x.compare then (y.matched.1, some y.matched.2)
    else ({ y with count := x.count + 1 }, none)

/-- What a millisecond does to a clock at the tick itself: an advance that does not reach compare is
made, before any action on the clock in the same millisecond; one that does is owed, and CLOCK_MATCH makes
it. DESIGN CHOICE (assumption 6): R138 lets an action come before the advance too. -/
def CueClock.tick (x : CueClock) : CueClock :=
  match x.state with
  | .stopped => x
  | .running | .stopping =>
    if x.count + 1 = x.compare then { x with owed := true } else { x with count := x.count + 1 }

/-! ### Tasks (R144, R145) -/

/-- The reasons of TASK REFUSED (R145), by their codes (R180). -/
inductive RefusalReason where
  | holdoff
  | wrongState
  | nothingStaged
  deriving DecidableEq, Repr

def RefusalReason.code : RefusalReason → Nat
  | .holdoff => 1
  | .wrongState => 2
  | .nothingStaged => 3

/-- TASK REFUSED with its route and reason. It is reported and not offered to the routes (R145). -/
def State.taskRefused (r : Fin 16) (why : RefusalReason) (s : State) : State :=
  s.report ⟨.taskRefused, numbered r, why.code⟩

/-- A task taken as a request that answers `x`: WRONG STATE refuses it, and END OF LIST does not
(R44, R145). -/
def taskTaken (r : Fin 16) (x : State × Result) : State :=
  if x.2 = .wrongState then x.1.taskRefused r .wrongState else x.1

/-- A clock action as a task (R138, R144). -/
def clockTask (r : Fin 16) (c : Fin 3) (a : ClockAction) (s : State) : State :=
  match (s.triggers.clocks.get c).act a with
  | some x => s.setClock c x
  | none => s.taskRefused r .wrongState

/-- Blackout set on or off (R86). -/
def State.setBlackout (s : State) (on : Bool) : State :=
  { s with level := { s.level with blackout := on } }

/-- The task SWAP NOW (R81). -/
def swapNow (r : Fin 16) (s : State) : State :=
  match s.level.staged with
  | some st => s.setStaged (some { st with due := true })
  | none => s.taskRefused r .nothingStaged

/-- A task taken (R144). -/
def takeTask (raise : Event → State → State) (r : Fin 16) (t : Task) (s : State) : State :=
  match t with
  | .go p => taskTaken r (goPlayback raise p s)
  | .pause p => taskTaken r (pausePlayback p s)
  | .resume p => taskTaken r (resumePlayback p s)
  | .release p => taskTaken r (releasePlayback p s)
  | .start c => clockTask r c .start s
  | .continue c => clockTask r c .continue s
  | .stop c => clockTask r c .stop s
  | .stopAtMatch c => clockTask r c .stopAtMatch s
  | .blackoutOn => s.setBlackout true
  | .blackoutOff => s.setBlackout false
  | .swapNow => swapNow r s

/-- The tasks of a held class (R76, R144). -/
def Task.isHeld : Task → Bool
  | .go _ | .pause _ | .resume _ | .release _ | .blackoutOn | .blackoutOff | .swapNow => true
  | .start _ | .continue _ | .stop _ | .stopAtMatch _ => false

/-- A task issued by a route: held while the phase is COMPUTING if it is of a held class, and taken at
once otherwise (R144). -/
def issueTask (raise : Event → State → State) (r : Fin 16) (t : Task) (s : State) : State :=
  match s.level.phase, t.isHeld with
  | .computing, true => s.setHeld (s.level.held ++ [.task r t])
  | _, _ => takeTask raise r t s

/-! ### The route table (R143) -/

/-- Whether an event comes from a route's source: the kind and, but for SWAP DONE, the subject. -/
def Source.matchesEvent (x : Source) (e : Event) : Bool :=
  decide (x.kind = e.kind) &&
    match x.subject with
    | some n => decide (n = e.subject)
    | none => true

/-- An event offered to one route (R143). -/
def offerRoute (raise : Event → State → State) (e : Event) (s : State) (r : Fin 16) : State :=
  let x := s.triggers.routes.get r
  if x.enabled && x.source.matchesEvent e then
    if x.holdoff then s.taskRefused r .holdoff
    else issueTask raise r x.task (s.setRoute r { x with holdoff := true })
  else s

/-- An event offered to the route table, Route 1 first (R143). -/
def offer (raise : Event → State → State) (e : Event) (s : State) : State :=
  (List.finRange 16).foldl (offerRoute raise e) s

/-- An event raised with at most `n` firings below it: reported, and offered to the routes if it is
routable (R164). At depth 0 no route with a clear holdoff mark is left (R143). -/
def raiseWithin : Nat → Event → State → State
  | 0, e, s => s.report e
  | n + 1, e, s => if e.kind.routable then offer (raiseWithin n) e (s.report e) else s.report e

/-- An event raised by a block (R164). -/
def raiseEvent (e : Event) (s : State) : State := raiseWithin Config.routeDepth e s

/-! ### Contacts (R133 to R135) -/

/-- Whether an edge setting names the edge to the level `high` (R134). -/
def Edge.names (x : Edge) (high : Bool) : Bool :=
  match x with
  | .off => false
  | .rising => high
  | .falling => !high
  | .both => true

/-- The detail of a CONTACT event: the code of RISING or FALLING (R180). -/
def edgeDetail (high : Bool) : Nat := if high then Edge.rising.code else Edge.falling.code

/-- The input level of a contact is accepted, and CONTACT is raised if the edge setting names the edge
(R134). -/
def acceptContact (c : Fin 4) (s : State) : State :=
  let x := s.triggers.contacts.get c
  let s' := s.setContact c { x with accepted := x.input, timer := none }
  if x.edge.names x.input then raiseEvent ⟨.contact, numbered c, edgeDetail x.input⟩ s' else s'

/-- A change of a contact's input level (R133). -/
def changeContact (c : Fin 4) (high : Bool) (s : State) : State :=
  let x := s.triggers.contacts.get c
  if high = x.input then s
  else if high = x.accepted then s.setContact c { x with input := high, timer := none }
  else
    let s' := s.setContact c { x with input := high, timer := some 0 }
    if x.debounce = 0 then acceptContact c s' else s'

/-- Whether a contact's debounce timer has reached the debounce time (R134). -/
def Contact.expired (x : Contact) : Bool :=
  match x.timer with
  | some t => decide (x.debounce ≤ t)
  | none => false

/-- The expiry of a debounce timer (R134). -/
def debounceEnd (c : Fin 4) (s : State) : State :=
  if (s.triggers.contacts.get c).expired then acceptContact c s else s

/-- SET CONTACT (R135). -/
def ownerSetContact (contact edge debounce : Byte) (s : State) : Answer :=
  match number 4 contact.toNat with
  | none => refuse s .noSuch
  | some c =>
    match Edge.ofCode edge.toNat with
    | none => refuse s .outOfRange
    | some e =>
      let x := s.triggers.contacts.get c
      let ms := min debounce.toNat 250
      let s1 := s.setContact c { x with edge := e, debounce := ms, timer := x.timer.map fun _ => 0 }
      let s2 := if ms = 0 then debounceEnd c s1 else s1
      ⟨s2, .done, b1 e.code ++ b1 ms ++ bYes (s2.triggers.contacts.get c).accepted⟩

/-! ### Requests on cue clocks (R138, R139) -/

/-- One advance of a clock on the state, raising CLOCK at a match (R137). -/
def advanceClock (c : Fin 3) (s : State) : State :=
  let r := (s.triggers.clocks.get c).advance
  let s' := s.setClock c r.1
  match r.2 with
  | some detail => raiseEvent ⟨.clock, numbered c, detail⟩ s'
  | none => s'

/-- The advance a clock owes to the present millisecond is made (assumption 6). -/
def owedAdvance (c : Fin 3) (s : State) : State :=
  if (s.triggers.clocks.get c).owed then advanceClock c s else s

/-- CLOCK ACTION (R138). -/
def ownerClockAction (clock action : Byte) (s : State) : Answer :=
  match number 3 clock.toNat with
  | none => refuse s .noSuch
  | some c =>
    match ClockAction.ofCode action.toNat with
    | none => refuse s .outOfRange
    | some a =>
      match (s.triggers.clocks.get c).act a with
      | none => refuse s .wrongState
      | some x => ⟨s.setClock c x, .done, b1 x.state.code ++ b4 x.count.toNat⟩

/-- SET CLOCK (R139). -/
def ownerSetClock (clock mode : Byte) (compare load : Quad) (s : State) : Answer :=
  match number 3 clock.toNat with
  | none => refuse s .noSuch
  | some c =>
    match ClockMode.ofCode mode.toNat with
    | none => refuse s .outOfRange
    | some m =>
      if 2 ^ 24 ≤ compare.toNat ∨ 2 ^ 24 ≤ load.toNat then refuse s .outOfRange
      else
        let x := { s.triggers.clocks.get c with
          mode := m, compare := compare.setWidth 24, load := load.setWidth 24 }
        ⟨s.setClock c x, .done, b1 m.code ++ b4 x.compare.toNat ++ b4 x.load.toNat ++
          b1 x.state.code ++ b4 x.count.toNat⟩

/-! ### Level watches (R140, R141) -/

/-- Whether a watch's condition is met by an output value (R140). -/
def Watch.met (x : Watch) (output : Nat) : Bool :=
  match x.condition with
  | .above => decide (x.threshold.toNat < output)
  | .below => decide (output < x.threshold.toNat)

/-- One evaluation of a watch: the watch after it and whether WATCH is raised (R140). -/
def Watch.evaluate (x : Watch) (output : Nat) : Watch × Bool :=
  let y := { x with lastOutput := some output }
  match x.state, x.met output with
  | .off, _ => (x, false)
  | .priming, true => ({ y with state := .met }, false)
  | .clear, true => ({ y with state := .met }, true)
  | .met, true => (y, false)
  | _, false => ({ y with state := .clear }, false)

/-- SET WATCH (R141). -/
def ownerSetWatch (watch : Byte) (circuit : Half) (condition threshold enabled : Byte) (s : State) :
    Answer :=
  match number 8 watch.toNat with
  | none => refuse s .noSuch
  | some w =>
    match number 1536 circuit.toNat, Condition.ofCode condition.toNat, yesNo enabled.toNat with
    | some k, some cond, some en =>
      ⟨s.setWatch w ⟨k, cond, threshold, en, if en then .priming else .off, none⟩, .done, []⟩
    | _, _, _ => refuse s .outOfRange

/-! ### Routes and reads (R142, R147) -/

/-- SET ROUTE (R142): the holdoff mark is kept. -/
def ownerSetRoute (route enabled sourceKind sourceSubject taskKind taskTarget : Byte) (s : State) :
    Answer :=
  match number 16 route.toNat with
  | none => refuse s .noSuch
  | some r =>
    match yesNo enabled.toNat, Source.ofCode sourceKind.toNat sourceSubject.toNat,
      Task.ofCode taskKind.toNat taskTarget.toNat with
    | some en, some src, some t =>
      ⟨s.setRoute r ⟨en, src, t, (s.triggers.routes.get r).holdoff⟩, .done, []⟩
    | _, _, _ => refuse s .outOfRange

/-- A contact's items of READ TRIGGERS (R147). -/
def contactBytes (x : Contact) : List Byte :=
  b1 x.edge.code ++ b1 x.debounce ++ bYes x.accepted ++ bYes x.input ++ bOpt b4 0 x.timer

/-- A cue clock's items of READ TRIGGERS. -/
def clockBytes (x : CueClock) : List Byte :=
  b1 x.mode.code ++ b4 x.compare.toNat ++ b4 x.load.toNat ++ b4 x.count.toNat ++ b1 x.state.code

/-- A level watch's items of READ TRIGGERS. -/
def watchBytes (x : Watch) : List Byte :=
  b2 (numbered x.circuit) ++ b1 x.condition.code ++ [x.threshold] ++ bYes x.enabled ++
    b1 x.state.code ++ bOpt b1 0 x.lastOutput

/-- A route's items of READ TRIGGERS, its subject and its target each present or absent (R142, R178). What
SET ROUTE carried for an absent one is not kept (assumption 18). -/
def routeBytes (x : Route) : List Byte :=
  bYes x.enabled ++ b1 x.source.kind.code ++ bOpt b1 0 x.source.subject ++ b1 x.task.code ++
    bOpt b1 0 x.task.target ++ bYes x.holdoff

/-- READ TRIGGERS (R147). -/
def ownerReadTriggers (s : State) : Answer :=
  ⟨s, .done, s.triggers.contacts.rows.flatMap contactBytes ++ s.triggers.clocks.rows.flatMap clockBytes ++
    s.triggers.watches.rows.flatMap watchBytes ++ s.triggers.routes.rows.flatMap routeBytes⟩

end Sys2Proof.Machine
end

