-- ==== Sys2Proof/Machine/DeskLinks.lean ====
section
/-! DEFINITION. The desk receivers, one character at a time, and the desk monitors: arrivals, losses,
settings and READ DESK (R46 to R65). What becomes of an accepted COMMAND frame is in Commands.lean. -/

namespace Sys2Proof.Machine

/-! ### The desk receiver (R46 to R52) -/

/-- The frame kind of a header's upper four bits, none for a kind a desk receiver does not take
(R47, R174). -/
def headerKind (header : Byte) : Option FrameKind :=
  match (header.extractLsb' 4 4).toNat with
  | 1 => some .levels
  | 4 => some .command
  | _ => none

/-- One error more; the count stays at 65,535 (R48). -/
def Receiver.countError (r : Receiver) : Receiver :=
  { r with errors := min (r.errors + 1) Config.maxErrors }

/-- A header taken: IN FRAME for LEVELS and COMMAND, HUNT for any other kind (R47). -/
def Receiver.header (r : Receiver) (header : Byte) : Receiver :=
  match headerKind header with
  | some k => { r with state := .inFrame k [] }
  | none => { r with state := .hunt }

/-- What a receiver hands on when a frame completes and is accepted (R51, R52). -/
inductive Accepted where
  | levels (base : Nat) (levels : List Byte)
  | command (c : Command)
  deriving DecidableEq, Repr

/-- A frame discarded with one error counted. -/
def Receiver.discard (r : Receiver) : Receiver := { r.countError with state := .hunt }

/-- The bytes of a LEVELS frame taken so far, after one more: refused at the count byte, complete, or
still in progress (R50, R51). -/
def Receiver.levelsByte (r : Receiver) (bytes : List Byte) : Receiver × Option Accepted :=
  match bytes with
  | b1 :: b0 :: count :: levels =>
    let base := (half b1 b0).toNat
    if base = 0 ∨ 768 < base ∨ count = 0 then (r.discard, none)
    else if levels.length = count.toNat then ({ r with state := .hunt }, some (.levels base levels))
    else ({ r with state := .inFrame .levels bytes }, none)
  | _ => ({ r with state := .inFrame .levels bytes }, none)

/-- The sum, modulo 65,536, of some bytes (R52, R177). -/
def checkSum (bytes : List Byte) : Half := bytes.foldl (fun a b => a + b.setWidth 16) 0

/-- The bytes of a COMMAND frame taken so far, after one more: refused for its length, complete, or
still in progress (R52). -/
def Receiver.commandByte (r : Receiver) (bytes : List Byte) : Receiver × Option Accepted :=
  match bytes with
  | tag :: code :: l1 :: l0 :: rest =>
    let length := (half l1 l0).toNat
    if Config.maxParams < length then (r.discard, none)
    else if rest.length = length + 2 then
      let params := rest.take length
      match rest.drop length with
      | [c1, c0] =>
        if half c1 c0 = checkSum ([tag, code, l1, l0] ++ params) then
          ({ r with state := .hunt }, some (.command ⟨tag, code, params⟩))
        else (r.discard, none)
      | _ => (r.discard, none)
    else ({ r with state := .inFrame .command bytes }, none)
  | _ => ({ r with state := .inFrame .command bytes }, none)

/-- One character taken by a receiver: the receiver after it and what it hands on (R47, R49). -/
def Receiver.take (r : Receiver) (x : Character) : Receiver × Option Accepted :=
  if !x.stopGood then (r.discard, none)
  else
    match r.state, x.mark with
    | .hunt, true => (r.header x.data, none)
    | .hunt, false => (r, none)
    | .inFrame _ _, true => (r.countError.header x.data, none)
    | .inFrame .levels bytes, false => r.levelsByte (bytes ++ [x.data])
    | .inFrame .command bytes, false => r.commandByte (bytes ++ [x.data])

/-! ### Arrivals (R51, R54, R58, R60) -/

/-- The value a running loss fade gives for a live value (R57). -/
def fadedLevel (e t live : Nat) : Nat := if e < t then (live * (t - e) + t / 2) / t else 0

/-- The slots of a LEVELS frame written over a live array: slot i belongs to channel base + i, and
slots above channel 768 are dropped (R51). -/
def writeSlots (base : Nat) (levels : List Byte) (live : Table Nat 768) : Table Nat 768 :=
  (levels.zipIdx base).foldl
    (fun live x => match number 768 x.2 with
      | some ch => live.set ch (expand x.1)
      | none => live)
    live

/-- Step 1 of R58: the faded values written back when a loss fade is running. -/
def Monitor.writeBack (m : Monitor) (now : Time) : Monitor :=
  match m.fadeRunning, m.loss with
  | true, some x =>
    { m with
      live := m.live.map (fadedLevel (elapsed now x.moment) x.fadeTime)
      fadeRunning := false }
  | _, _ => m

/-- The refresh interval measured by a frame with base channel 1 (R60). -/
def Monitor.measure (m : Monitor) (base : Nat) (now : Time) : Monitor :=
  if base = 1 then
    { m with
      refreshInterval := match m.lastBase1 with
        | some t => some (now - t)
        | none => m.refreshInterval
      lastBase1 := some now }
  else m

/-- An accepted LEVELS frame applied to a monitor (R51, R54, R58, R60). -/
def Monitor.arrive (m : Monitor) (base : Nat) (levels : List Byte) (now : Time) : Monitor :=
  let w := m.writeBack now
  { w with live := writeSlots base levels w.live, lastLevels := some now, state := .active }.measure
    base now

/-- The detail of the DESK BACK event of an arrival, none when none is raised (R54, R58). -/
def DeskState.backDetail : DeskState → Option Nat
  | .absent => some 0
  | .active => none
  | .lost => some 1

/-- An accepted LEVELS frame, in one step (R51). -/
def levelsArrive (d : Desk) (base : Nat) (levels : List Byte) (s : State) : State :=
  let m := (s.desk d).monitor
  let s' := s.setMonitor d (m.arrive base levels s.showClock)
  match m.state.backDetail with
  | some detail => raiseEvent ⟨.deskBack, deskCode d, detail⟩ s'
  | none => s'

/-! ### Losses (R55 to R57) -/

/-- Whether an ACTIVE desk's silence has reached its timeout (R55). -/
def Monitor.timedOut (m : Monitor) (now : Time) : Bool :=
  match m.state, m.lastLevels with
  | .active, some t => decide (m.settings.timeout ≤ elapsed now t)
  | _, _ => false

/-- A monitor at its loss: the loss is captured from the settings and applied (R55, R56). -/
def Monitor.lose (m : Monitor) (now : Time) : Monitor :=
  let fadeTime := m.settings.lossFadeTime * 100
  let lost := { m with state := .lost, loss := some ⟨now, m.settings.lossAction, fadeTime⟩ }
  match m.settings.lossAction with
  | .hold => { lost with fadeRunning := false }
  | .drop => { lost with live := Table.fill 768 0, fadeRunning := false }
  | .fade =>
    if 0 < fadeTime then { lost with fadeRunning := true }
    else { lost with live := Table.fill 768 0, fadeRunning := false }

/-- A desk becomes LOST if its timeout is reached (R55). -/
def checkTimeout (d : Desk) (s : State) : State :=
  let m := (s.desk d).monitor
  if m.timedOut s.showClock then
    raiseEvent ⟨.deskLost, deskCode d, m.settings.lossAction.code⟩ (s.setMonitor d (m.lose s.showClock))
  else s

/-- Whether a running loss fade has reached its captured time (R57). -/
def Monitor.fadeExpired (m : Monitor) (now : Time) : Bool :=
  match m.fadeRunning, m.loss with
  | true, some x => decide (x.fadeTime ≤ elapsed now x.moment)
  | _, _ => false

/-- The expiry of a loss fade (R57). -/
def expireFade (d : Desk) (s : State) : State :=
  let m := (s.desk d).monitor
  if m.fadeExpired s.showClock then
    s.setMonitor d { m with live := Table.fill 768 0, fadeRunning := false }
  else s

/-! ### The latch (R63) -/

/-- What the level processor latches from a monitor (R63). -/
def Monitor.latch (m : Monitor) (now : Time) : DeskLatch where
  contributes := decide (m.state ≠ .absent) && decide (m.settings.merge = .htp)
  live := m.live
  fade := match m.fadeRunning, m.loss with
    | true, some x => some (elapsed now x.moment, x.fadeTime)
    | _, _ => none

/-! ### SET DESK and READ DESK (R62, R64) -/

/-- The five settings as a reply carries them. -/
def settingsBytes (x : DeskSettings) : List Byte :=
  b2 x.timeout ++ b1 x.lossAction.code ++ b2 x.lossFadeTime ++ b1 x.merge.code ++ b1 x.rights.code

/-- SET DESK (R62). -/
def ownerSetDesk (target : Byte) (timeout : Half) (lossAction : Byte) (lossFadeTime : Half)
    (merge rights : Byte) (s : State) : Answer :=
  match deskOfCode target.toNat with
  | none => refuse s .noSuch
  | some d =>
    match LossAction.ofCode lossAction.toNat, Merge.ofCode merge.toNat, Rights.ofCode rights.toNat with
    | some act, some mrg, some rts =>
      if d = .A ∧ rts ≠ .full then refuse s .notPermitted
      else
        let x : DeskSettings :=
          ⟨clamp 100 5000 timeout.toNat, act, clamp 0 600 lossFadeTime.toNat, mrg, rts⟩
        let s' := s.setMonitor d { (s.desk d).monitor with settings := x }
        ⟨checkTimeout d s', .done, settingsBytes x⟩
    | _, _, _ => refuse s .outOfRange

/-- The data of a READ DESK reply (R64). -/
def deskBytes (u : DeskUnit) (now : Time) : List Byte :=
  let m := u.monitor
  b1 m.state.code ++ settingsBytes m.settings ++ b2 u.receiver.errors ++
    bOpt quadBytes 0 m.refreshInterval ++
    bOpt quadBytes 0 (m.lastLevels.map fun t => now - t) ++
    bOpt quadBytes 0 (m.loss.map (·.moment)) ++
    bOpt b1 0 (m.loss.map (·.action.code)) ++
    bOpt b4 0 (m.loss.map (·.fadeTime)) ++
    bYes m.fadeRunning ++
    bOpt quadBytes 0 (if m.fadeRunning then m.loss.map fun x => now - x.moment else none)

/-- READ DESK (R64): the clear option reads 0 as off and any other value as on (R178). -/
def ownerReadDesk (target clear : Byte) (s : State) : Answer :=
  match deskOfCode target.toNat with
  | none => refuse s .noSuch
  | some d =>
    let u := s.desk d
    let s' := if clear = 0 then s else s.setReceiver d { u.receiver with errors := 0 }
    ⟨s', .done, deskBytes u s.showClock⟩

end Sys2Proof.Machine
end

