-- ==== Sys2Proof/Machine/PatchBanks.lean ====
section
/-! DEFINITION. The patch banks: a circuit's intensity, the three edits, READ BANK ENTRY, and staging and
cancelling a swap (R89 to R103). -/

namespace Sys2Proof.Machine

/-- An item of `n` numbered from 0, none when `k` numbers no existing item. -/
def index (n k : Nat) : Option (Fin n) := if h : k < n then some ⟨k, h⟩ else none

/-- A circuit's intensity from its record and the channel levels (R90). -/
def CircuitRecord.intensity (r : CircuitRecord) (levels : Table Nat 768) : Nat :=
  match r.source with
  | none => 0
  | some c => (levels.get c * r.proportion + 50) / 100

/-! ### Edits (R91 to R95) -/

/-- A source channel field: 0 stands for absent (R178); none when it is out of range. -/
def readSource (source : Half) : Option (Option (Fin 768)) :=
  if source.toNat = 0 then some none else (number 768 source.toNat).map some

/-- Checks 2 to 4 of R92: the circuit and the record carried, the proportion clamped. -/
def readCircuitRecord (circuit source : Half) (proportion law preheat topSet : Byte) :
    Option (Fin 1536 × CircuitRecord) :=
  match number 1536 circuit.toNat, readSource source, index 8 law.toNat with
  | some k, some src, some l => some (k, ⟨src, min proportion.toNat 100, l, preheat, topSet⟩)
  | _, _, _ => none

/-- A source channel, 0 when absent. -/
def sourceNumber (r : CircuitRecord) : Nat := orZero (r.source.map numbered)

/-- The five fields of a record as a reply carries them. -/
def recordFields (r : CircuitRecord) : List Byte :=
  b2 (sourceNumber r) ++ b1 r.proportion ++ b1 r.law.val ++ [r.preheat, r.topSet]

/-- Whether an edit of bank `b` is hot: it writes the active bank (R91). -/
def State.isHot (s : State) (b : Fin 4) : Bool := decide (b = s.level.activeBank)

/-- Bank `b` written whole, and the switch states that this resets (R93, R94, R95): on a hot edit, those
of the circuits whose law number changes. -/
def writeBank (b : Fin 4) (new : Bank) (s : State) : State :=
  let reset := Table.zip (fun (o n : CircuitRecord) => s.isHot b && decide (o.law ≠ n.law))
    (s.patch.banks.get b) new
  { s with
    patch := { s.patch with
      banks := s.patch.banks.set b new
      switches := Table.zip (fun r sw => if r then false else sw) reset s.patch.switches } }

/-- The number of records that differ between two banks. -/
def changedRecords (old new : Bank) : Nat :=
  (Table.zip (fun (o n : CircuitRecord) => decide (o ≠ n)) old new).count id

/-- The number of records whose law number differs between two banks. -/
def changedLaws (old new : Bank) : Nat :=
  (Table.zip (fun (o n : CircuitRecord) => decide (o.law ≠ n.law)) old new).count id

/-- SET CIRCUIT (R92, R93). -/
def ownerSetCircuit (bank : Byte) (circuit source : Half) (proportion law preheat topSet : Byte)
    (s : State) : Answer :=
  match number 4 bank.toNat with
  | none => refuse s .noSuch
  | some b =>
    match readCircuitRecord circuit source proportion law preheat topSet with
    | none => refuse s .outOfRange
    | some (k, r) =>
      let old := s.patch.banks.get b
      let reset := s.isHot b && decide ((old.get k).law ≠ r.law)
      ⟨writeBank b (old.set k r) s, .done, recordFields r ++ bYes (s.isHot b) ++ bYes reset⟩

/-- The reply of an edit that writes a whole bank (R94, R95). -/
def bankEditData (b : Fin 4) (new : Bank) (s : State) : List Byte :=
  let old := s.patch.banks.get b
  b2 (changedRecords old new) ++ b2 (if s.isHot b then changedLaws old new else 0) ++ bYes (s.isHot b)

/-- COPY BANK (R94). -/
def ownerCopyBank (source destination : Byte) (s : State) : Answer :=
  match number 4 source.toNat, number 4 destination.toNat with
  | some src, some dst =>
    let new := s.patch.banks.get src
    ⟨writeBank dst new s, .done, bankEditData dst new s⟩
  | _, _ => refuse s .noSuch

/-- CLEAR BANK (R95). -/
def ownerClearBank (bank : Byte) (s : State) : Answer :=
  match number 4 bank.toNat with
  | none => refuse s .noSuch
  | some b =>
    let new := Table.fill 1536 CircuitRecord.default
    ⟨writeBank b new s, .done, bankEditData b new s⟩

/-- Whether a bank is the target of the staged swap. -/
def State.isStagedTarget (s : State) (b : Fin 4) : Bool :=
  match s.level.staged with
  | some st => decide (st.target = b)
  | none => false

/-- READ BANK ENTRY (R96). DESIGN CHOICE (assumption 26): with both a bank and a circuit out of range R96 gives
no order, and the bank is checked first, so the answer is NO SUCH. -/
def ownerReadBankEntry (bank : Byte) (circuit : Half) (s : State) : Answer :=
  match number 4 bank.toNat with
  | none => refuse s .noSuch
  | some b =>
    let records := s.patch.banks.get b
    if circuit.toNat = 0 then
      ⟨s, .done, bYes (s.isHot b) ++ bYes (s.isStagedTarget b) ++
        b2 (records.count fun r => r.source.isSome) ++
        b2 (records.count fun r => decide (r ≠ CircuitRecord.default))⟩
    else
      match number 1536 circuit.toNat with
      | none => refuse s .outOfRange
      | some k => ⟨s, .done, recordFields (records.get k) ++ bYes (s.isHot b)⟩

/-! ### Staging a swap (R97 to R99) -/

/-- Checks 2 and 3 of R97: the method, with its playback for AT GO. -/
def readMethod (method playback : Byte) : Except Result Method :=
  match method.toNat with
  | 0 => .ok .nextScan
  | 1 => .ok .atDark
  | 2 => match number 6 playback.toNat with
    | some p => .ok (.atGo p)
    | none => .error .noSuch
  | 3 => .ok .onTask
  | _ => .error .outOfRange

/-- The playback of a staged swap, present for AT GO only (R97). -/
def Method.playback : Method → Option Nat
  | .atGo p => some (numbered p)
  | .nextScan | .atDark | .onTask => none

/-- The four fields of a staged swap (R97). -/
def stagedBytes (x : Staged) : List Byte :=
  b1 (numbered x.target) ++ b1 x.method.code ++ bOpt b1 0 x.method.playback ++ bYes x.due

/-- Target bank and method of a swap that a staging replaces or a cancel removes. -/
def swapBytes (x : Staged) : List Byte := b1 (numbered x.target) ++ b1 x.method.code

/-- SELECT BANK (R97, R98): the due mark is set at once for NEXT SCAN. -/
def ownerSelectBank (bank method playback : Byte) (s : State) : Answer :=
  match number 4 bank.toNat with
  | none => refuse s .noSuch
  | some b =>
    match readMethod method playback with
    | .error why => refuse s why
    | .ok m =>
      let new : Staged := ⟨b, m, decide (m = .nextScan)⟩
      let replaced := match s.level.staged with
        | some old => 1 :: swapBytes old
        | none => [0, 0, 0]
      ⟨s.setStaged (some new), .done, stagedBytes new ++ replaced⟩

/-- CANCEL SWAP (R99). -/
def ownerCancelSwap (s : State) : Answer :=
  match s.level.staged with
  | none => refuse s .wrongState
  | some old => ⟨s.setStaged none, .done, swapBytes old⟩

end Sys2Proof.Machine
end

