-- ==== Sys2Proof/Machine/OutputStage.lean ====
section
/-! DEFINITION. The output stage: dimmer laws, preheat and top-set, switch states, the park list, and the
requests on them (R104 to R120). -/

namespace Sys2Proof.Machine

/-! ### Laws (R106, R107) -/

/-- Law 0 (R106). -/
def linearValue (i : Nat) : Nat := (i * 255 + 2047) / 4095

/-- A CURVE law, interpolated between two of its points (R107). -/
def curveValue (points : Table Byte 17) (i : Nat) : Nat :=
  let seg := i / 256
  let frac := i % 256
  let p := (points.rows.getD seg 0).toNat
  let q := (points.rows.getD (seg + 1) 0).toNat
  if p ≤ q then p + ((q - p) * frac + 128) / 256 else p - ((p - q) * frac + 128) / 256

/-- Preheat and top-set (R108). -/
def limited (r : CircuitRecord) (l : Nat) : Nat := min (max l r.preheat.toNat) r.topSet.toNat

/-- The switch state after the update of R109. -/
def switchUpdate (on off : Nat) (state : Bool) (i : Nat) : Bool :=
  if state then decide (off < i) else decide (on ≤ i)

/-- The park level of a circuit, none when it is not parked (R115). -/
def parkLevel (parks : List Park) (k : Fin 1536) : Option Byte :=
  (parks.find? fun x => x.circuit == k).map (·.level)

/-- The output step of one circuit: its output value and switch state from its intensity (R104). -/
def outputStep (laws : Table Law 8) (parks : List Park) (k : Fin 1536) (r : CircuitRecord)
    (state : Bool) (i : Nat) : CircuitResult :=
  match parkLevel parks k with
  | some level => ⟨i, level.toNat, state, true⟩
  | none =>
    match laws.get r.law with
    | .linear => ⟨i, limited r (linearValue i), state, false⟩
    | .curve points => ⟨i, limited r (curveValue points i), state, false⟩
    | .switch on off =>
      let state' := switchUpdate on off state i
      ⟨i, if state' then 255 else 0, state', false⟩

/-- The circuit step (R75): every circuit through the active bank's records and the output stage. -/
def circuitStep (patch : Patch) (bank : Fin 4) (levels : Table Nat 768) : Table CircuitResult 1536 :=
  Table.zip (fun (x : Fin 1536 × CircuitRecord) (state : Bool) =>
      outputStep patch.laws patch.parks x.1 x.2 state (x.2.intensity levels))
    (Table.zip Prod.mk (Table.indices 1536) (patch.banks.get bank)) patch.switches

/-! ### LOAD LAW and READ LAW (R111 to R113) -/

/-- Checks 3 to 5 of R111: the law carried. -/
def readLawBody (kind : Byte) (body : List Byte) : Except Result Law :=
  match kind.toNat with
  | 1 => if h : body.length = 17 then .ok (.curve ⟨body, h⟩) else .error .badRequest
  | 2 =>
    match body with
    | [a, b, c, d] =>
      let on := (half a b).toNat
      let off := (half c d).toNat
      if on ≤ 4095 ∧ off ≤ 4095 ∧ off < on then .ok (.switch on off) else .error .outOfRange
    | _ => .error .badRequest
  | _ => .error .outOfRange

/-- The contents of a law: the points of a CURVE, the thresholds of a SWITCH, none for LINEAR. -/
def lawContents : Law → List Byte
  | .linear => []
  | .curve points => points.rows
  | .switch on off => b2 on ++ b2 off

/-- How many circuits of the active bank name law `l`. -/
def circuitsOnLaw (s : State) (l : Fin 8) : Nat :=
  (s.patch.banks.get s.level.activeBank).count fun r => decide (r.law = l)

/-- How many of those have switch state ON. -/
def onCircuits (s : State) (l : Fin 8) : Nat :=
  (Table.zip (fun (r : CircuitRecord) (sw : Bool) => decide (r.law = l) && sw)
    (s.patch.banks.get s.level.activeBank) s.patch.switches).count id

/-- A law replaced whole, with the switch states of the active bank's circuits that name it set to OFF
(R112). -/
def putLaw (l : Fin 8) (new : Law) (s : State) : State :=
  { s with
    patch := { s.patch with
      laws := s.patch.laws.set l new
      switches := Table.zip (fun (r : CircuitRecord) sw => if r.law = l then false else sw)
        (s.patch.banks.get s.level.activeBank) s.patch.switches } }

/-- LOAD LAW (R111, R112). -/
def ownerLoadLaw (law kind : Byte) (body : List Byte) (s : State) : Answer :=
  match index 8 law.toNat with
  | none => refuse s .noSuch
  | some l =>
    if l = 0 then refuse s .notPermitted
    else
      match readLawBody kind body with
      | .error why => refuse s why
      | .ok new =>
        ⟨putLaw l new s, .done, b1 new.code ++ lawContents new ++ b2 (circuitsOnLaw s l) ++
          b2 (onCircuits s l)⟩

/-- READ LAW (R113). -/
def ownerReadLaw (law : Byte) (s : State) : Answer :=
  match index 8 law.toNat with
  | none => refuse s .noSuch
  | some l =>
    let x := s.patch.laws.get l
    ⟨s, .done, b1 x.code ++ lawContents x ++ b2 (circuitsOnLaw s l)⟩

/-! ### The park list (R115 to R117) -/

/-- A park put into the list at the place its circuit gives, over any entry of that circuit (R116). -/
def putPark (x : Park) : List Park → List Park
  | [] => [x]
  | y :: ys =>
    if x.circuit < y.circuit then x :: y :: ys
    else if x.circuit = y.circuit then x :: ys
    else y :: putPark x ys

/-- The state with the park list replaced. -/
def State.setParks (s : State) (parks : List Park) : State :=
  { s with patch := { s.patch with parks := parks } }

/-- PARK (R116). -/
def ownerPark (circuit : Half) (level : Byte) (s : State) : Answer :=
  match number 1536 circuit.toNat with
  | none => refuse s .outOfRange
  | some k =>
    let old := parkLevel s.patch.parks k
    let parks := putPark ⟨k, level⟩ s.patch.parks
    let data := b1 (if old.isSome then 1 else 0) ++ bOpt (fun x => [x]) 0 old ++ b1 parks.length
    if old.isSome ∨ s.patch.parks.length < Config.maxParks then ⟨s.setParks parks, .done, data⟩
    else refuse s .full

/-- UNPARK (R117). -/
def ownerUnpark (circuit : Half) (s : State) : Answer :=
  match number 1536 circuit.toNat with
  | none => refuse s .outOfRange
  | some k =>
    match parkLevel s.patch.parks k with
    | none => refuse s .noSuch
    | some level =>
      let parks := s.patch.parks.filter fun x => x.circuit != k
      ⟨s.setParks parks, .done, [level] ++ b1 parks.length⟩

/-- UNPARK ALL (R117). -/
def ownerUnparkAll (s : State) : Answer :=
  ⟨s.setParks [], .done, b1 s.patch.parks.length⟩

/-! ### READ CIRCUIT (R119) -/

/-- The breakdown of one circuit. -/
def circuitBytes (s : State) (k : Fin 1536) : List Byte :=
  let scan := s.level.last
  let r := (s.patch.banks.get scan.bank).get k
  let x := scan.circuits.get k
  quadBytes scan.start ++ b1 (numbered scan.bank) ++ recordFields r ++
    bOpt b2 0 (r.source.map scan.levels.get) ++ b2 x.intensity ++ bYes x.parked ++ bYes x.switchOn ++
    b1 x.output

/-- READ CIRCUIT (R119). -/
def ownerReadCircuit (circuit : Half) (s : State) : Answer :=
  if circuit.toNat = 0 then
    ⟨s, .done, b1 s.patch.parks.length ++
      (s.patch.parks.flatMap fun x => b2 (numbered x.circuit) ++ [x.level]) ++
      b2 (s.level.last.circuits.count (·.switchOn)) ++ bYes s.level.last.dark⟩
  else
    match number 1536 circuit.toNat with
    | none => refuse s .outOfRange
    | some k => ⟨s, .done, circuitBytes s k⟩

end Sys2Proof.Machine
end

