-- ==== Sys2Proof/Machine/RackLinks.lean ====
section
/-! DEFINITION. The rack transmitters: frames, cycles, posting, refresh and SET LINK (R121 to R132). -/

namespace Sys2Proof.Machine

/-! ### Cycles (R123, R125) -/

/-- The rack addresses of a mask, in ascending order: bit a is address a (R178). -/
def maskRacks (mask : BitVec 4) : List (Fin 4) :=
  (List.finRange 4).filter fun a => mask.getLsbD a.val

/-- The transmitter goes to IDLE at a cycle end and its refresh timer starts from 0 (R125). -/
def Transmitter.toIdle (t : Transmitter) : Transmitter :=
  { t with state := .idle, current := none, cycle := [], refresh := some 0 }

/-- A set taken: it becomes the current set and the last set, and a cycle begins with the mask as it
stands (R121, R123). A cycle with no rack ends at the moment it begins. -/
def Transmitter.takeSet (x : LinkSet) (t : Transmitter) : Transmitter :=
  match maskRacks t.mask with
  | [] => { t with last := some x }.toIdle
  | a :: rest =>
    { t with
      state := .sending a
      current := some x
      cycle := a :: rest
      last := some x
      refresh := none }

/-- The end of a cycle (R125). -/
def Transmitter.cycleEnd (t : Transmitter) : Transmitter :=
  match t.queued with
  | some x => { t with queued := none }.takeSet x
  | none => t.toIdle

/-- The transmitter disabled at the end of its frame in flight, or while IDLE (R129). -/
def Transmitter.silenced (t : Transmitter) : Transmitter :=
  { t with state := .idle, current := none, cycle := [], queued := none, last := none, refresh := none }

/-- The end of the frame in flight (R123, R129). -/
def Transmitter.frameEnd (t : Transmitter) : Transmitter :=
  match t.state with
  | .idle => t
  | .sending a =>
    if t.enabled then
      match t.cycle.find? fun b => decide (a < b) with
      | some b => { t with state := .sending b }
      | none => t.cycleEnd
    else t.silenced

/-! ### Posting and refresh (R124, R127) -/

/-- A posted set: the transmitter after it, and whether SET SKIPPED is raised (R124). -/
def Transmitter.post (x : LinkSet) (t : Transmitter) : Transmitter × Bool :=
  if !t.enabled || t.mask == 0 then (t, false)
  else
    match t.state with
    | .idle => (t.takeSet x, false)
    | .sending _ => ({ t with queued := some x }, t.queued.isSome)

/-- Whether the refresh timer has reached 100 ms (R127). -/
def Transmitter.refreshDue (t : Transmitter) : Bool :=
  match t.state, t.refresh with
  | .idle, some ms => t.enabled && decide (Config.refreshMs ≤ ms)
  | _, _ => false

/-- The refresh timer at 100 ms (R127). -/
def Transmitter.refreshed (t : Transmitter) : Transmitter :=
  if t.refreshDue then
    match t.last with
    | some x => if t.mask = 0 then { t with refresh := some 0 } else t.takeSet x
    | none => t
  else t

/-! ### Frames (R122) -/

/-- The output value of slot s (from 0) of rack a in a link's set. -/
def slotValue (x : LinkSet) (a : Fin 4) (slot : Fin 96) : Nat :=
  x.get ⟨a.val * 96 + slot.val, by omega⟩

/-- The bytes of a rack's frame after its header: 96 output values in slot order and their sum modulo 256
(R122, R177). -/
def rackBytes (x : LinkSet) (a : Fin 4) : List Byte :=
  let values := (List.finRange 96).map fun slot => BitVec.ofNat 8 (slotValue x a slot)
  values ++ [values.foldl (· + ·) 0]

/-- The characters of the frame in flight, whose header has kind 2 and the rack address (R122, R175). None
while the line is idle. -/
def Transmitter.frame (t : Transmitter) : Option (List Character) :=
  match t.state, t.current with
  | .sending a, some x => some (sentFrame (headerOf 2 a.val) (rackBytes x a))
  | _, _ => none

/-! ### SET LINK (R128 to R130) -/

/-- New settings taken by a transmitter (R129, R130). -/
def Transmitter.configure (enabled : Bool) (mask : BitVec 4) (t : Transmitter) : Transmitter :=
  let t' := { t with enabled := enabled, mask := mask }
  match t.enabled, enabled, t.state with
  | true, false, .idle => t'.silenced
  | _, _, _ => t'

/-- The transmitter state and, in one byte, the rack address of the frame in flight (R180). -/
def linkStateBytes : LinkState → List Byte
  | .idle => [0, 0]
  | .sending a => 1 :: b1 a.val

/-- The rack mask as one byte. -/
def maskByte (mask : BitVec 4) : Byte := mask.setWidth 8

/-- SET LINK (R128). The reply shows the transmitter as the request leaves it, the last set of an IDLE link
disabled as absent: DESIGN CHOICE (assumption 25). -/
def ownerSetLink (link enabled mask : Byte) (s : State) : Answer :=
  match number 4 link.toNat with
  | none => refuse s .noSuch
  | some l =>
    match yesNo enabled.toNat with
    | none => refuse s .outOfRange
    | some en =>
      if 16 ≤ mask.toNat then refuse s .outOfRange
      else
        let t := (s.links.get l).configure en (mask.setWidth 4)
        ⟨s.setLink l t, .done, bYes en ++ [maskByte t.mask] ++ linkStateBytes t.state ++
          bYes t.queued.isSome ++ bYes t.last.isSome⟩

/-- The items of a transmitter in READ STATUS (R131): the cycle rack list as a rack mask. -/
def linkBytes (t : Transmitter) : List Byte :=
  bYes t.enabled ++ [maskByte t.mask] ++ linkStateBytes t.state ++
    b1 ((t.cycle.map fun a => 2 ^ a.val).sum) ++ bYes t.queued.isSome ++ bYes t.last.isSome ++
    bOpt b4 0 t.refresh

end Sys2Proof.Machine
end

