-- ==== Sys2Proof/Machine/LevelProcessor.lean ====
section
/-! DEFINITION. The level processor's arithmetic and requests: the latch, the merge, the channel step, the
swap test, the dark test, SET SCAN, SET GRAND MASTER, BLACKOUT and READ CHANNEL (R66 to R86). -/

namespace Sys2Proof.Machine

/-! ### Latch, merge and channel step (R72 to R74) -/

/-- What a desk presents to a scan (R63, R73): its latched live values, or the faded values while its
latched loss fade runs; nothing when it does not contribute. -/
def DeskLatch.present (x : DeskLatch) : DeskPresent :=
  if x.contributes then
    match x.fade with
    | some (e, t) => ⟨true, x.live.map (fadedLevel e t), true⟩
    | none => ⟨true, x.live, false⟩
  else ⟨false, Table.fill 768 0, false⟩

/-- The inputs of a scan, latched at one moment (R72). -/
def State.latchInputs (s : State) (length : Nat) : Latch where
  deskA := s.deskA.monitor.latch s.showClock
  deskB := s.deskB.monitor.latch s.showClock
  grandMaster := s.level.grandMaster
  blackout := s.level.blackout
  masters := s.playbacks.map (·.master)
  length := length

/-- The merge: for each channel the greatest of the values the desks present and the playback
contributions (R73). A desk that does not contribute presents 0 here, which no maximum notices. -/
def mergeAll (a b : DeskPresent) (contributions : Table (Table Nat 768) 6) : Table Nat 768 :=
  contributions.rows.foldl (Table.zip max) (Table.zip max a.levels b.levels)

/-- The channel levels from the merged values (R74). -/
def channelLevels (grandMaster : Byte) (blackout : Bool) (merged : Table Nat 768) : Table Nat 768 :=
  merged.map fun m => if blackout then 0 else scaleBy grandMaster m

/-- The six contributions, each with its latched master (R42, R73). -/
def contributionsOf (masters : Table Byte 6) (playbacks : Table Playback 6) : Table (Table Nat 768) 6 :=
  Table.zip Playback.contribution masters playbacks

/-- The computation of a scan from its latch, the playbacks after their scan work, and the patch banks
block (R73 to R75). -/
def computeScan (start : Time) (x : Latch) (playbacks : Table Playback 6) (patch : Patch)
    (bank : Fin 4) : ScanRecord :=
  let a := x.deskA.present
  let b := x.deskB.present
  let contributions := contributionsOf x.masters playbacks
  let merged := mergeAll a b contributions
  let levels := channelLevels x.grandMaster x.blackout merged
  { start := start
    deskA := a
    deskB := b
    contributions := contributions
    merged := merged
    levels := levels
    grandMaster := x.grandMaster
    blackout := x.blackout
    bank := bank
    circuits := circuitStep patch bank levels
    dark := false }

/-- Whether every circuit intensity of a scan is 0 (R80). -/
def ScanRecord.isDark (r : ScanRecord) : Bool := r.circuits.all fun c => c.intensity == 0

/-! ### The swap test (R70) -/

/-- The swap test of a scan start (R70). -/
def swapTest (s : State) : State :=
  match s.level.staged with
  | some st =>
    if st.due then
      { s with
        level := { s.level with
          activeBank := st.target
          staged := none
          newBank := some s.level.activeBank }
        patch := { s.patch with switches := Table.fill 1536 false } }
    else s
  | none => s

/-! ### The dark test (R80) -/

/-- The dark test of a compute end: the dark indication, and the due mark of an AT DARK swap (R80). -/
def darkTest (s : State) : State :=
  let dark := s.level.work.isDark
  let s' := { s with level := { s.level with dark := dark } }
  match s.level.staged with
  | some st =>
    if dark && decide (st.method = .atDark) then s'.setStaged (some { st with due := true }) else s'
  | none => s'

/-! ### Requests (R67, R84, R86) -/

/-- SET SCAN (R67): clamped to 4 to 40 ms. The timer in flight is not changed. -/
def ownerSetScan (period : Byte) (s : State) : Answer :=
  let ms := clamp 4 40 period.toNat
  ⟨{ s with level := { s.level with period := ms } }, .done, b1 ms⟩

/-- SET GRAND MASTER (R86). -/
def ownerSetGrandMaster (level : Byte) (s : State) : Answer :=
  ⟨{ s with level := { s.level with grandMaster := level } }, .done, [level]⟩

/-- BLACKOUT (R86): 0 reads as off and any other value as on (R178). -/
def ownerBlackout (setting : Byte) (s : State) : Answer :=
  let on := decide (setting ≠ 0)
  ⟨s.setBlackout on, .done, bYes on⟩

/-- The value a desk presented for a channel, absent when it did not contribute (R84). -/
def DeskPresent.value (x : DeskPresent) (ch : Fin 768) : Option Nat :=
  if x.contributed then some (x.levels.get ch) else none

/-- READ CHANNEL (R84). -/
def ownerReadChannel (channel : Half) (s : State) : Answer :=
  match number 768 channel.toNat with
  | none => refuse s .outOfRange
  | some ch =>
    let r := s.level.last
    ⟨s, .done, quadBytes r.start ++ bOpt b2 0 (r.deskA.value ch) ++ bOpt b2 0 (r.deskB.value ch) ++
      bYes r.deskA.scaled ++ bYes r.deskB.scaled ++
      (r.contributions.rows.flatMap fun t => b2 (t.get ch)) ++ b2 (r.merged.get ch) ++
      [r.grandMaster] ++ bYes r.blackout ++ b2 (r.levels.get ch)⟩

end Sys2Proof.Machine
end

