-- ==== Sys2Proof/Machine/ShowMemory.lean ====
section
/-! DEFINITION. The show memory and the two resets: STORE and its end, power-on from the image, and what
a RESTART leaves (R16, R45, R65, R87, R88, R103, R120, R132, R148, R162, R170 to R173). -/

namespace Sys2Proof.Machine

/-! ### STORE (R170, R171) -/

/-- The image of the items of R170 as each stands now. -/
def imageOf (s : State) : Image where
  banks := s.patch.banks
  activeBank := s.level.activeBank
  period := s.level.period
  laws := s.patch.laws
  lists := s.lists
  playbacks := s.playbacks.map fun pb => ⟨pb.loaded, pb.releaseTime, pb.backTime⟩
  deskA := s.deskA.monitor.settings
  deskB := s.deskB.monitor.settings
  links := s.links.map fun t => ⟨t.enabled, t.mask⟩
  contacts := s.triggers.contacts.map fun x => ⟨x.edge, x.debounce⟩
  clocks := s.triggers.clocks.map fun x => ⟨x.mode, x.compare, x.load⟩
  watches := s.triggers.watches.map fun x => ⟨x.circuit, x.condition, x.threshold, x.enabled⟩
  routes := s.triggers.routes.map fun x => ⟨x.enabled, x.source, x.task⟩
  mask := s.reports.mask

/-- STORE (R171): the memory goes to STORING with the image as the items stand. -/
def ownerStore (s : State) : Answer :=
  ⟨{ s with memory := .storing (imageOf s) s.showClock }, .started, quadBytes s.showClock⟩

/-- A store ends with the whole image written (R171). -/
def storeCompleted (s : State) : State :=
  match s.memory with
  | .storing image since =>
    raiseEvent ⟨.storeDone, 0, elapsed s.showClock since⟩ { s with memory := .valid image }
  | .valid _ | .invalid => s

/-- A store ends with a write fault (R171). -/
def storeFaulted (s : State) : State :=
  match s.memory with
  | .storing _ _ => raiseEvent ⟨.storeFailed, 0, 0⟩ { s with memory := .invalid }
  | .valid _ | .invalid => s

/-! ### Power-on (R172) -/

/-- The show memory at power-on: a store cut short leaves it INVALID (R171, R172). -/
def ShowMemory.atPowerOn : ShowMemory → ShowMemory
  | .valid image => .valid image
  | .invalid | .storing _ _ => .invalid

/-- The image handed to the owners at power-on: the stored one, or the factory values (R172). -/
def ShowMemory.handedOver : ShowMemory → Image
  | .valid image => image
  | .invalid | .storing _ _ => .factory

/-- A desk unit at power-on, with its settings (R65, R162). -/
def DeskUnit.atPowerOn (settings : DeskSettings) : DeskUnit where
  receiver := ⟨.hunt, 0⟩
  monitor := .afterReset settings
  port := ⟨.empty, []⟩

/-- A contact at power-on: the accepted level is taken from the input level (R148, assumption 23). -/
def Contact.atPowerOn (x : ContactImage) (input : Bool) : Contact :=
  ⟨x.edge, x.debounce, input, input, none⟩

/-- A watch's state after a reset: PRIMING if it is enabled (R148). -/
def watchStateAfterReset (enabled : Bool) : WatchState := if enabled then .priming else .off

/-- The playbacks at power-on, each with its stored list and times (R45). -/
def playbacksFrom (image : Image) : Table Playback 6 :=
  image.playbacks.map fun x => .afterReset x.loaded x.releaseTime x.backTime

/-- The trigger unit at power-on (R148). -/
def triggersFrom (image : Image) (contacts : Table Contact 4) : Triggers where
  contacts := Table.zip (fun x (old : Contact) => Contact.atPowerOn x old.input) image.contacts contacts
  clocks := image.clocks.map fun x => ⟨x.mode, x.compare, x.load, 0, .stopped, false⟩
  watches := image.watches.map fun x =>
    ⟨x.circuit, x.condition, x.threshold, x.enabled, watchStateAfterReset x.enabled, none⟩
  routes := image.routes.map fun x => ⟨x.enabled, x.source, x.task, false⟩

/-- Power-on: the image or the factory values handed to every owner, and every block at its power-on
values (R172). The rights of Desk A are FULL whatever the image holds (R61). -/
def powerOn (s : State) : State :=
  let image := s.memory.handedOver
  { deskA := .atPowerOn { image.deskA with rights := .full }
    deskB := .atPowerOn image.deskB
    lists := image.lists
    playbacks := playbacksFrom image
    level := .afterReset image.period image.activeBank (playbacksFrom image)
    patch :=
      { banks := image.banks
        laws := image.laws.set 0 .linear
        parks := []
        switches := Table.fill 1536 false }
    links := image.links.map fun x => .afterPowerOn x.enabled x.mask
    triggers := triggersFrom image s.triggers.contacts
    processor := ⟨.idle, .B⟩
    reports := ⟨[], 0, image.mask, false⟩
    showClock := 0
    memory := s.memory.atPowerOn
    choices := s.choices
    pending := s.pending }

/-! ### RESTART carried out (R159) -/

/-- A reply list at a restart: the frame in flight is sent to its end, and replies not yet begun are
discarded (R162). A final reply in flight no longer belongs to a buffer. -/
def repliesAtRestart : List Reply → List Reply
  | [] => []
  | r :: _ => [if r.kind = .final then { r with kind := .orphan } else r]

/-- A desk unit at a restart; `inFlight` are the replies of its list that the restart keeps (R65,
R162). -/
def DeskUnit.atRestart (u : DeskUnit) (inFlight : List Reply) : DeskUnit where
  receiver := ⟨.hunt, 0⟩
  monitor := .afterReset u.monitor.settings
  port := ⟨.empty, inFlight⟩

/-- The trigger unit at a restart (R148): settings and holdoff marks are kept. -/
def Triggers.atRestart (t : Triggers) : Triggers where
  contacts := t.contacts.map fun x => { x with accepted := x.input, timer := none }
  clocks := t.clocks.map fun x => { x with count := 0, state := .stopped, owed := false }
  watches := t.watches.map fun x =>
    { x with state := watchStateAfterReset x.enabled, lastOutput := none }
  routes := t.routes

/-- The playbacks at a restart, each with the list and times it has (R45). -/
def playbacksAtRestart (t : Table Playback 6) : Table Playback 6 :=
  t.map fun pb => .afterReset pb.loaded pb.releaseTime pb.backTime

/-- The restart carried out, when the last character of the DONE reply has been sent to desk `d`: that
desk's remaining replies have not begun, and the other desk's list keeps the frame in flight. Every
block takes its RESTART values; a computation in progress is abandoned and the held-request list
emptied (R87, R159, R162). -/
def restartPart (d : Desk) (s : State) : State :=
  let inFlight := fun x => if x = d then [] else repliesAtRestart (s.desk x).port.replies
  { s with
    deskA := s.deskA.atRestart (inFlight .A)
    deskB := s.deskB.atRestart (inFlight .B)
    playbacks := playbacksAtRestart s.playbacks
    level := .afterReset s.level.period s.level.activeBank (playbacksAtRestart s.playbacks)
    patch := { s.patch with
      laws := s.patch.laws.set 0 .linear
      parks := []
      switches := Table.fill 1536 false }
    triggers := s.triggers.atRestart
    processor := ⟨.idle, .B⟩
    reports := ⟨[], 0, s.reports.mask, false⟩
    showClock := 0 }

end Sys2Proof.Machine
end

