-- ==== Sys2Proof/Machine/Reports.lean ====
section
/-! DEFINITION. The requests of the report unit and READ STATUS (R160, R166 to R169, R180). -/

namespace Sys2Proof.Machine

/-- A report in its eight bytes (R180). -/
def reportBytes (r : Report) : List Byte :=
  b1 r.event.kind.code ++ b1 r.event.subject ++ b2 r.event.detail ++ quadBytes r.time

/-- TAKE REPORTS (R166). -/
def ownerTakeReports (count : Byte) (s : State) : Answer :=
  let taken := s.reports.queue.take (takeCount count)
  let left := s.reports.queue.drop (takeCount count)
  ⟨{ s with reports := { s.reports with queue := left } }, .done,
    b1 taken.length ++ taken.flatMap reportBytes ++ b1 left.length⟩

/-- SET REPORT MASK (R168): event kind k by bit k − 1, bits 14 and 15 ignored (R178). DESIGN CHOICE
(assumption 27): R178 does not say what these two hold in the reply, and they are sent as 0. -/
def ownerSetReportMask (mask : Half) (s : State) : Answer :=
  ⟨{ s with reports := { s.reports with mask := mask.setWidth 14 } }, .done,
    halfBytes ((mask.setWidth 14).zeroExtend 16)⟩

/-- CLEAR FLAGS (R167). -/
def ownerClearFlags (selection : Half) (s : State) : Answer :=
  let after := s.reports.clear selection
  ⟨{ s with reports := after }, .done,
    halfBytes (flagsField s.reports) ++ halfBytes (flagsField after)⟩

/-! ### READ STATUS (R160) -/

/-- A desk's items of READ STATUS. -/
def deskStatus (u : DeskUnit) : List Byte :=
  b1 u.monitor.state.code ++ b1 u.monitor.settings.merge.code ++ b1 u.monitor.settings.rights.code ++
    b1 u.port.buffer.code

/-- The level processor's items of READ STATUS (R85). -/
def levelStatus (x : LevelProcessor) : List Byte :=
  b1 x.period ++ [x.grandMaster] ++ bYes x.blackout ++ b1 (numbered x.activeBank) ++
    bOpt stagedBytes ⟨0, .nextScan, false⟩ x.staged ++ bYes x.dark ++ quadBytes x.last.start

/-- The ms since a store in progress began, none when no store is in progress (R169). -/
def storeElapsed (s : State) : Option Time :=
  match s.memory with
  | .storing _ since => some (s.showClock - since)
  | .valid _ | .invalid => none

/-- The report unit's and the show memory's items of READ STATUS (R169). DESIGN CHOICE (assumption 27): the
unused bits of the flags field and of the report mask are sent as 0. -/
def memoryStatus (s : State) : List Byte :=
  b1 s.reports.queue.length ++ halfBytes (flagsField s.reports) ++
    halfBytes (s.reports.mask.zeroExtend 16) ++ b1 s.memory.code ++ bOpt quadBytes 0 (storeElapsed s)

/-- READ STATUS (R160). -/
def ownerReadStatus (s : State) : Answer :=
  ⟨s, .done, quadBytes s.showClock ++ deskStatus s.deskA ++ deskStatus s.deskB ++
    b1 (deskCode s.processor.served) ++ s.playbacks.rows.flatMap playbackData ++ totalsData s.lists ++
    b1 s.patch.parks.length ++ levelStatus s.level ++ s.links.rows.flatMap linkBytes ++
    memoryStatus s⟩

end Sys2Proof.Machine
end

