-- ==== Sys2Proof/Machine/Commands.lean ====
section
/-! DEFINITION. The command processor: command buffers, reply lists, the arbiter, the four checks, and
the dispatch of a request to its owner (R149 to R162). -/

namespace Sys2Proof.Machine

/-! ### The owners (section 9.6) -/

/-- A request taken by its owner. RESTART is carried out only when its reply has been sent (R159). -/
def perform (r : Request) (s : State) : Answer :=
  match r with
  | .go p => playbackRequest p s fun p => goPlayback raiseEvent p s
  | .goto p cue ovr => playbackRequest p s fun p => gotoPlayback raiseEvent p cue ovr s
  | .back p => playbackRequest p s fun p => backPlayback raiseEvent p s
  | .pause p => playbackRequest p s fun p => pausePlayback p s
  | .resume p => playbackRequest p s fun p => resumePlayback p s
  | .release p => playbackRequest p s fun p => releasePlayback p s
  | .loadList p l => playbackRequest p s fun p => loadListPlayback p l s
  | .unload p => playbackRequest p s fun p => unloadPlayback p s
  | .setMaster p m => playbackRequest p s fun p => setMasterPlayback p m s
  | .setRate p x => ownerSetRate p x s
  | .setPlaybackTimes p x y => playbackRequest p s fun p => setTimesPlayback p x y s
  | .writeCue l cue ut dt ud dd fo li n es => ownerWriteCue l cue ut dt ud dd fo li n es s
  | .deleteCue l cue => ownerDeleteCue l cue s
  | .clearList l => ownerClearList l s
  | .setCircuit b c src prop law pre top => ownerSetCircuit b c src prop law pre top s
  | .copyBank src dst => ownerCopyBank src dst s
  | .clearBank b => ownerClearBank b s
  | .selectBank b m p => ownerSelectBank b m p s
  | .cancelSwap => ownerCancelSwap s
  | .loadLaw l k body => ownerLoadLaw l k body s
  | .park c level => ownerPark c level s
  | .unpark c => ownerUnpark c s
  | .unparkAll => ownerUnparkAll s
  | .setGrandMaster x => ownerSetGrandMaster x s
  | .blackout x => ownerBlackout x s
  | .setScan x => ownerSetScan x s
  | .setDesk d t act fade mrg rts => ownerSetDesk d t act fade mrg rts s
  | .setLink l e m => ownerSetLink l e m s
  | .setContact c e t => ownerSetContact c e t s
  | .setClock c m cmp ld => ownerSetClock c m cmp ld s
  | .clockAction c a => ownerClockAction c a s
  | .setWatch w c cond thr en => ownerSetWatch w c cond thr en s
  | .setRoute r en sk ss tk tt => ownerSetRoute r en sk ss tk tt s
  | .takeReports n => ownerTakeReports n s
  | .setReportMask m => ownerSetReportMask m s
  | .clearFlags x => ownerClearFlags x s
  | .store => ownerStore s
  | .restart => ⟨s, .done, []⟩
  | .readStatus => ownerReadStatus s
  | .readDesk d c => ownerReadDesk d c s
  | .readPlayback p c => ownerReadPlayback p c s
  | .readChannel c => ownerReadChannel c s
  | .readCircuit c => ownerReadCircuit c s
  | .readCue l c => ownerReadCue l c s
  | .readBankEntry b c => ownerReadBankEntry b c s
  | .readLaw l => ownerReadLaw l s
  | .readTriggers => ownerReadTriggers s

/-! ### Checks (R152 to R155) -/

/-- The requests of the playback class (R153): playback actions and settings that change no stored
content, grand master, blackout, TAKE REPORTS and every READ. -/
def playbackClass : List Nat :=
  [16, 17, 18, 19, 20, 21, 24, 25, 68, 69, 112, 128, 129, 130, 131, 132, 133, 134, 135, 136]

/-- Check 1 of R152: whether the rights of the sending desk allow a request code (R153). Desk A holds
FULL rights at all times. -/
def State.permits (s : State) (d : Desk) (code : Byte) : Bool :=
  match d with
  | .A => true
  | .B =>
    match s.deskB.monitor.settings.rights with
    | .full => true
    | .playback => decide (code.toNat ∈ playbackClass)
    | .none => decide (code.toNat = 128)

/-- The requests refused BUSY while show memory is STORING (R155). -/
def Request.changesStored : Request → Bool
  | .loadList .. | .unload .. | .setPlaybackTimes .. => true
  | .writeCue .. | .deleteCue .. | .clearList .. => true
  | .setCircuit .. | .copyBank .. | .clearBank .. => true
  | .loadLaw .. => true
  | .setScan .. => true
  | .setDesk .. | .setLink .. => true
  | .setContact .. | .setClock .. | .setWatch .. | .setRoute .. => true
  | .setReportMask .. => true
  | .store | .restart => true
  | .go .. | .goto .. | .back .. | .pause .. | .resume .. | .release .. | .setMaster .. | .setRate .. => false
  | .selectBank .. | .cancelSwap | .park .. | .unpark .. | .unparkAll => false
  | .setGrandMaster .. | .blackout .. | .clockAction .. | .takeReports .. | .clearFlags .. => false
  | .readStatus | .readDesk .. | .readPlayback .. | .readChannel .. | .readCircuit .. => false
  | .readCue .. | .readBankEntry .. | .readLaw .. | .readTriggers => false

/-- The four checks of R152 in order: the request, or the outcome of the first that fails. -/
def checkCommand (d : Desk) (c : Command) (s : State) : Except Result Request :=
  if !s.permits d c.code then .error .notPermitted
  else
    match parse c.code c.params with
    | .unknownCode => .error .badRequest
    | .badLength => .error .badRequest
    | .request r => if r.changesStored && s.memory.isStoring then .error .busy else .ok r

/-- The requests of a held class (R76); a bank edit is one when it writes the active bank (R91, R156). -/
def Request.isHeld (r : Request) (s : State) : Bool :=
  match r with
  | .go .. | .goto .. | .back .. | .release .. | .pause .. | .resume .. | .loadList .. | .unload .. => true
  | .setMaster .. | .setRate .. | .setPlaybackTimes .. => true
  | .writeCue .. | .deleteCue .. | .clearList .. => true
  | .setGrandMaster .. | .blackout .. => true
  | .setCircuit b .. => decide (b.toNat = numbered s.level.activeBank)
  | .copyBank _ dst => decide (dst.toNat = numbered s.level.activeBank)
  | .clearBank b => decide (b.toNat = numbered s.level.activeBank)
  | .loadLaw .. | .park .. | .unpark .. | .unparkAll => true
  | .selectBank .. | .cancelSwap => true
  | .setScan .. | .setDesk .. | .setLink .. => false
  | .setContact .. | .setClock .. | .clockAction .. | .setWatch .. | .setRoute .. => false
  | .takeReports .. | .setReportMask .. | .clearFlags .. | .store | .restart => false
  | .readStatus | .readDesk .. | .readPlayback .. | .readChannel .. | .readCircuit .. => false
  | .readCue .. | .readBankEntry .. | .readLaw .. | .readTriggers => false

/-! ### Replies (R150, R157) -/

/-- A reply to command `c`, made now and placed in the desk's reply list; its data is present with DONE
and STARTED only (R157). -/
def addReply (d : Desk) (k : ReplyKind) (c : Command) (r : Result) (data : List Byte) (s : State) : State :=
  let reply : Reply :=
    { kind := k
      tag := c.tag
      code := c.code
      result := r
      flags := replyFlags s
      data := if r = .done ∨ r = .started then data else [] }
  s.setReplies d ((s.desk d).port.replies ++ [reply])

/-- The bytes of a REPLY frame after its header, with its check (R176, R177). -/
def replyBytes (r : Reply) : List Byte :=
  let body := [r.tag, r.code] ++ b1 r.result.code ++ [r.flags] ++ b2 r.data.length ++ r.data
  body ++ halfBytes (checkSum body)

/-- The characters of a REPLY frame, whose header has kind 8 and address 0 (R175). -/
def replyFrame (r : Reply) : List Character := sentFrame (headerOf 8 0) (replyBytes r)

/-- The final reply of the command a desk's buffer holds: the buffer passes to ANSWERING and the
processor becomes IDLE (R151). -/
def answer (d : Desk) (c : Command) (a : Answer) : State :=
  ((addReply d .final c a.result a.data a.state).setBuffer d (.answering c)).setProcessor .idle

/-- The DONE reply of a RESTART: the processor stays EXECUTING until the restart is carried out (R159). -/
def answerRestart (d : Desk) (c : Command) (s : State) : State :=
  (addReply d .restart c .done [] s).setBuffer d (.answering c)

/-! ### Taking a command (R151, R156) -/

/-- A command that passed the four checks, dispatched to its owner (R156). -/
def dispatch (d : Desk) (c : Command) (r : Request) (s : State) : State :=
  if s.level.phase = .computing ∧ r.isHeld s = true then
    (s.setHeld (s.level.held ++ [.command d c r])).setProcessor (.holding d)
  else if r = .restart then answerRestart d c s
  else answer d c (perform r s)

/-- The command of desk `d` taken by the processor; the arbiter's mark is set to that desk (R151). -/
def beginCommand (d : Desk) (c : Command) (s : State) : State :=
  { s.setBuffer d (.taken c) with processor := ⟨.executing d, d⟩ }

/-- The command of desk `d` taken and checked (R151, R152). -/
def takeCommand (d : Desk) (c : Command) (s : State) : State :=
  let s' := beginCommand d c s
  match checkCommand d c s' with
  | .error why => answer d c (refuse s' why)
  | .ok r => dispatch d c r s'

/-- The command waiting in a buffer. -/
def Buffer.waitingCommand : Buffer → Option Command
  | .waiting c => some c
  | .empty | .taken _ | .answering _ => none

/-- The command the arbiter takes next, when the processor is IDLE: with both buffers WAITING, that of
the desk not served most recently (R151). -/
def nextCommand (s : State) : Option (Desk × Command) :=
  let last := s.processor.served
  match s.processor.state with
  | .idle =>
    match (s.desk last.other).port.buffer.waitingCommand with
    | some c => some (last.other, c)
    | none => (s.desk last).port.buffer.waitingCommand.map fun c => (last, c)
  | .executing _ | .holding _ => none

/-- The processor takes at most `n` waiting commands, one after another. -/
def arbitrateWithin : Nat → State → State
  | 0, s => s
  | n + 1, s =>
    match nextCommand s with
    | some (d, c) => arbitrateWithin n (takeCommand d c s)
    | none => s

/-- The processor takes commands while it is IDLE and a buffer is WAITING: at most one from each of the
two buffers, since a buffer whose command is answered is not WAITING (R149, R151). -/
def arbitrate (s : State) : State := arbitrateWithin 2 s

/-! ### Arrival (R149, R150) -/

/-- How many BUSY replies a list holds. -/
def busyReplies (rs : List Reply) : Nat := rs.countP fun r => decide (r.kind = .busy)

/-- A command that its desk's receiver hands on (R149, R150): it enters an EMPTY buffer; otherwise a BUSY
reply is made for it, unless that would be a fourth. -/
def commandArrives (d : Desk) (c : Command) (s : State) : State :=
  match (s.desk d).port.buffer with
  | .empty => arbitrate (s.setBuffer d (.waiting c))
  | .waiting _ | .taken _ | .answering _ =>
    if busyReplies (s.desk d).port.replies < Config.maxBusyReplies then addReply d .busy c .busy [] s
    else s

/-- The command that carries a request. -/
def Request.command (r : Request) (tag : Byte) : Command := ⟨tag, r.code, r.params⟩

/-- A request row: the desk's receiver hands on the accepted COMMAND frame that carries the request
(assumption 11). -/
def requestArrives (d : Desk) (tag : Byte) (r : Request) (s : State) : State :=
  commandArrives d (r.command tag) s

/-! ### Replies sent, and RESTART (R150, R159) -/

/-- The last character of the oldest REPLY frame of a desk's list is sent (R149, R150). A final reply
leaves its buffer EMPTY; the DONE reply of a RESTART has the restart carried out (R159). -/
def replyDone (d : Desk) (s : State) : State :=
  match (s.desk d).port.replies with
  | [] => s
  | r :: rest =>
    let s' := s.setReplies d rest
    match r.kind with
    | .busy | .orphan => s'
    | .final => s'.setBuffer d .empty
    | .restart => restartPart d s'

/-- The desk whose RESTART has been answered and is not yet carried out. -/
def restartingDesk (s : State) : Option Desk :=
  if s.deskA.port.replies.any (fun r => decide (r.kind = .restart)) then some .A
  else if s.deskB.port.replies.any (fun r => decide (r.kind = .restart)) then some .B
  else none

/-- The moment at which the last character of a RESTART's DONE reply has been sent, with the replies
ahead of it sent first (R159, assumption 19). -/
def restartMoment (s : State) : State :=
  match restartingDesk s with
  | some d => restartPart d s
  | none => s

/-! ### Characters received (R46 to R52) -/

/-- What becomes of a frame a receiver accepts (R51, R52). -/
def acceptFrame (d : Desk) (x : Option Accepted) (s : State) : State :=
  match x with
  | some (.levels base levels) => levelsArrive d base levels s
  | some (.command c) => commandArrives d c s
  | none => s

/-- One character received on a desk's forward line. -/
def receive (d : Desk) (x : Character) (s : State) : State :=
  let r := (s.desk d).receiver.take x
  acceptFrame d r.2 (s.setReceiver d r.1)

/-- Unmarked characters with good stop bits received one after another. -/
def receiveRun (d : Desk) (bytes : List Byte) (s : State) : State :=
  bytes.foldl (fun s b => receive d ⟨b, false, true⟩ s) s

end Sys2Proof.Machine
end

