-- ==== Sys2Proof/Machine/Scan.lean ====
section
/-! DEFINITION. The scan: scan start and compute end (R66 to R88), and the millisecond tick with the
occurrences that have fallen due (R163). -/

namespace Sys2Proof.Machine

/-! ### Scan start (R67 to R75) -/

/-- The scan timer reloaded at its expiry, with the phase COMPUTING (R67, R68). -/
def beginScan (s : State) : State :=
  { s with
    level := { s.level with
      phase := .computing
      timer := s.level.period
      inForce := s.level.period } }

/-- The holdoff marks cleared (R71). -/
def clearHoldoff (s : State) : State :=
  { s with
    triggers := { s.triggers with
      routes := s.triggers.routes.map fun x => { x with holdoff := false } } }

/-- Every playback's scan work over a scan of `length` ms (R21), with whether it took an automatic GO. -/
def scanWorks (length : Nat) (s : State) : Table (Playback × Bool) 6 :=
  Table.zip (fun p pb => pb.scanWork s.lists length p) (Table.indices 6) s.playbacks

/-- The playbacks' scan work on the state. The playbacks as they stood are kept for READ PLAYBACK (R43),
and an automatic GO makes an AT GO swap due (R69). -/
def playbackScanWork (length : Nat) (s : State) : State :=
  let works := scanWorks length s
  let s' := { s with
    playbacks := works.map (·.1)
    level := { s.level with beforeScan := s.playbacks } }
  (List.finRange 6).foldl (fun s p => if (works.get p).2 then s.goTaken p else s) s'

/-- The latch (R72). -/
def latchStep (length : Nat) (s : State) : State :=
  { s with level := { s.level with latch := s.latchInputs length } }

/-- The channel step and the circuit step (R73 to R75), with the switch states they leave. -/
def computeStep (s : State) : State :=
  let r := computeScan s.showClock s.level.latch s.playbacks s.patch s.level.activeBank
  { s with
    level := { s.level with work := r }
    patch := { s.patch with switches := r.circuits.map (·.switchOn) } }

/-- A scan start: the timer is reloaded, then the swap test, the latch, the holdoff clear, the playbacks'
scan work and the computation follow (R68, R70 to R75). P is the period in force until now (R67). -/
def scanStart (s : State) : State :=
  let length := s.level.inForce
  computeStep (playbackScanWork length (clearHoldoff (latchStep length (swapTest (beginScan s)))))

/-! ### Compute end (R78 to R83) -/

/-- The 384 output values of one link, in circuit order (R79). -/
def linkSet (circuits : Table CircuitResult 1536) (l : Fin 4) : LinkSet :=
  ⟨((circuits.rows.map (·.output)).drop (384 * l.val)).take 384, by
    simp [circuits.size]
    omega⟩

/-- Items picked out one after another: each number is the place of the next item among those left. -/
def arrange {α : Type} : List Nat → List α → List α
  | [], xs => xs
  | i :: is, xs =>
    match xs[i]? with
    | some x => x :: arrange is (xs.eraseIdx i)
    | none => arrange is xs

/-- The links in the order numbered `k` of the 24 there are. -/
def linkOrder (k : Fin 24) : List (Fin 4) :=
  arrange [k.val / 6, k.val % 6 / 2, k.val % 2] (List.finRange 4)

/-- SET SKIPPED raised for each of these links. It is reported and not offered to the routes (R126). -/
def raiseSkipped (links : List (Fin 4)) (s : State) : State :=
  links.foldl (fun s l => s.report ⟨.setSkipped, numbered l, 0⟩) s

/-- SET SKIPPED for two or more links comes in an order that is not fixed (R126, assumption 2). -/
def raiseSkippedFreely (links : List (Fin 4)) (s : State) : State :=
  match links with
  | [] => s
  | [l] => raiseSkipped [l] s
  | _ =>
    raiseSkipped ((linkOrder (Config.postOrder s.choices)).filter fun l => decide (l ∈ links))
      { s with choices := s.choices + 1 }

/-- Step 1 of compute end: the output set posted to the four rack transmitters (R79, R124). -/
def postSets (s : State) : State :=
  let posts := Table.zip (fun l t => t.post (linkSet s.level.work.circuits l)) (Table.indices 4) s.links
  raiseSkippedFreely ((List.finRange 4).filter fun l => (posts.get l).2)
    { s with links := posts.map (·.1) }

/-- One held request taken: the processor carries out a command that it was HOLDING, and its reply is made
(R151, R156); a task refused raises TASK REFUSED (R77). -/
def takeHeld (h : Held) (s : State) : State :=
  match h with
  | .command d c r => answer d c (perform r (s.setProcessor (.executing d)))
  | .task r t => takeTask raiseEvent r t s

/-- Step 2: the held requests taken one at a time, oldest first (R77). -/
def takeHeldAll : List Held → State → State
  | [], s => s
  | h :: rest, s => takeHeldAll rest (takeHeld h (s.setHeld rest))

/-- SWAP DONE, when the new-bank mark is set, and the mark cleared (R82). -/
def swapDone (s : State) : State :=
  match s.level.newBank with
  | some before =>
    let s' := raiseEvent ⟨.swapDone, numbered s.level.activeBank, numbered before⟩ s
    { s' with level := { s'.level with newBank := none } }
  | none => s

/-- The events that the scan work of Playback 1 to Playback 6 kept, raised in turn (R21, R82). -/
def scanWorkEvents (s : State) : State :=
  let es := s.playbacks.rows.flatMap (·.scanEvents)
  raiseAll raiseEvent es
    { s with playbacks := s.playbacks.map fun pb => { pb with scanEvents := [] } }

/-- One level watch evaluated against the scan's output values (R140). -/
def evaluateWatch (s : State) (w : Fin 8) : State :=
  let x := s.triggers.watches.get w
  let output := (s.level.work.circuits.get x.circuit).output
  let r := x.evaluate output
  let s' := s.setWatch w r.1
  if r.2 then raiseEvent ⟨.watch, numbered w, output⟩ s' else s'

/-- The level watches, Watch 1 first (R82, R140). -/
def evaluateWatches (s : State) : State := (List.finRange 8).foldl evaluateWatch s

/-- Step 5: the last completed scan record (R83). -/
def writeRecord (s : State) : State :=
  { s with level := { s.level with last := { s.level.work with dark := s.level.dark } } }

/-- Compute end, in the order of R78. A processor that became IDLE at step 2 takes a waiting command when
all of it is complete (R151). -/
def computeEnd (s : State) : State :=
  let s1 := postSets { s with level := { s.level with phase := .waiting } }
  let s2 := takeHeldAll s1.level.held s1
  arbitrate (writeRecord (evaluateWatches (scanWorkEvents (swapDone (darkTest s2)))))

/-! ### Occurrences that the world's clock brings -/

/-- Whether the scan timer expires at the present millisecond (R67). -/
def scanIsDue (s : State) : Bool := decide (s.level.phase = .waiting) && decide (s.level.timer = 0)

/-- A scan start, when the scan timer has expired (R67, R68). -/
def scanStartIfDue (s : State) : State := if scanIsDue s then scanStart s else s

/-- A compute end, when a computation is in progress (R68, assumption 17). -/
def computeEndIfComputing (s : State) : State :=
  match s.level.phase with
  | .computing => computeEnd s
  | .waiting => s

/-- A refresh, when the refresh timer has reached 100 ms (R127). -/
def refreshLink (l : Fin 4) (s : State) : State := s.setLink l (s.links.get l).refreshed

/-- A compute end that can wait no longer: its scan started 2 ms ago (R68). -/
def computeEndAtLimit (s : State) : State :=
  if Config.computeLimitMs ≤ elapsed s.showClock s.level.work.start then computeEndIfComputing s else s

/-- A store that can wait no longer ends, whether by a write fault being a free value (R171,
assumption 3). -/
def storeEndAtLimit (s : State) : State :=
  match s.memory with
  | .storing _ since =>
    if Config.storeLimitMs ≤ elapsed s.showClock since then
      let s' := { s with choices := s.choices + 1 }
      if Config.storeFaults s.choices then storeFaulted s' else storeCompleted s'
    else s
  | .valid _ | .invalid => s

/-- What has fallen due in the millisecond that ends and has not been taken is taken now (assumption 7):
owed clock advances, debounce expiries, desk timeouts, loss fade expiries, refreshes, a compute end and
a store end at their limits, and the scan start. -/
def takeOverdue (s : State) : State :=
  let s1 := (List.finRange 3).foldl (fun s c => owedAdvance c s) s
  let s2 := (List.finRange 4).foldl (fun s c => debounceEnd c s) s1
  let s3 := checkTimeout .B (checkTimeout .A s2)
  let s4 := expireFade .B (expireFade .A s3)
  let s5 := (List.finRange 4).foldl (fun s l => refreshLink l s) s4
  scanStartIfDue (storeEndAtLimit (computeEndAtLimit s5))

/-- A refresh timer one millisecond on, while it runs (R121). -/
def Transmitter.tick (t : Transmitter) : Transmitter := { t with refresh := t.refresh.map (· + 1) }

/-- A debounce timer one millisecond on, while it runs (R133). -/
def Contact.tick (x : Contact) : Contact := { x with timer := x.timer.map (· + 1) }

/-- The next millisecond: the show clock and every running ms count advance by one (R67, R127, R133,
R136, R163). -/
def advanceMillisecond (s : State) : State :=
  { s with
    showClock := s.showClock + 1
    level := { s.level with timer := s.level.timer - 1 }
    links := s.links.map Transmitter.tick
    triggers := { s.triggers with
      contacts := s.triggers.contacts.map Contact.tick
      clocks := s.triggers.clocks.map CueClock.tick } }

/-- One advance of the show clock (R163). -/
def showClockTick (s : State) : State := advanceMillisecond (takeOverdue s)

end Sys2Proof.Machine
end

