-- ==== Sys2Proof/Machine/CueRequests.lean ====
section
/-! DEFINITION. The cue store requests as commands of the block: each is the arrival, from one desk, of the
accepted COMMAND frame that carries it (R149), and goes through the command buffer, the arbiter, the four
checks and the dispatch to its owner. -/

namespace Sys2Proof.Machine

/-- WRITE CUE (R7). -/
def execWriteCue (desk : Desk) (tag list : Byte)
    (cue upTime downTime upDelay downDelay follow link count : Half)
    (entries : List (Half × Byte)) (s : State) :
    Host.Outcome State Fault Refusal :=
  .next (requestArrives desk tag
    (.writeCue list cue upTime downTime upDelay downDelay follow link count (entryBytes entries)) s)

/-- DELETE CUE (R9). -/
def execDeleteCue (desk : Desk) (tag : Byte) (list : Byte) (cue : Half) (s : State) :
    Host.Outcome State Fault Refusal :=
  .next (requestArrives desk tag (.deleteCue list cue) s)

/-- CLEAR LIST (R10). -/
def execClearList (desk : Desk) (tag : Byte) (list : Byte) (s : State) :
    Host.Outcome State Fault Refusal :=
  .next (requestArrives desk tag (.clearList list) s)

end Sys2Proof.Machine
end

