-- ==== Sys2Proof/Machine/ManagementRequests.lean ====
section
/-! DEFINITION. The report unit, show memory and RESTART requests as commands of the block: each is the arrival, from one desk, of the
accepted COMMAND frame that carries it (R149), and goes through the command buffer, the arbiter, the four
checks and the dispatch to its owner. -/

namespace Sys2Proof.Machine

/-- TAKE REPORTS (R166). -/
def execTakeReports (desk : Desk) (tag : Byte) (count : Byte) (s : State) :
    Host.Outcome State Fault Refusal :=
  .next (requestArrives desk tag (.takeReports count) s)

/-- SET REPORT MASK (R168). -/
def execSetReportMask (desk : Desk) (tag : Byte) (mask : Half) (s : State) :
    Host.Outcome State Fault Refusal :=
  .next (requestArrives desk tag (.setReportMask mask) s)

/-- CLEAR FLAGS (R167). -/
def execClearFlags (desk : Desk) (tag : Byte) (selection : Half) (s : State) :
    Host.Outcome State Fault Refusal :=
  .next (requestArrives desk tag (.clearFlags selection) s)

/-- STORE (R171). -/
def execStore (desk : Desk) (tag : Byte) (s : State) :
    Host.Outcome State Fault Refusal :=
  .next (requestArrives desk tag .store s)

/-- RESTART (R159). -/
def execRestart (desk : Desk) (tag : Byte) (s : State) :
    Host.Outcome State Fault Refusal :=
  .next (requestArrives desk tag .restart s)

end Sys2Proof.Machine
end

