-- ==== Sys2Proof/Machine/Occurrences.lean ====
section
/-! DEFINITION. The occurrences that are not requests, as commands of the block: power, the millisecond,
characters on the forward lines, the ends of replies and rack frames, contacts, and the moments the
block's own timers reach. An occurrence whose condition does not hold at the present moment is no
occurrence and leaves the state as it is (assumption 8). -/

namespace Sys2Proof.Machine

/-- POWER_ON (R172). -/
def execPowerOn (s : State) : Host.Outcome State Fault Refusal :=
  .next (powerOn s)

/-- SHOW_CLOCK_TICK (R163). -/
def execShowClockTick (s : State) : Host.Outcome State Fault Refusal :=
  .next (showClockTick s)

/-- The unmarked characters of a LEVELS frame: base, count and levels (R50, R176). -/
def levelsFrameBytes (base : Half) (levels : List Byte) : List Byte :=
  halfBytes base ++ [BitVec.ofNat 8 levels.length] ++ levels

/-- The unmarked characters of a COMMAND frame: tag, code, length, parameters and check (R52, R176). -/
def commandFrameBytes (tag code : Byte) (params : List Byte) (check : Half) : List Byte :=
  [tag, code] ++ halfBytes (BitVec.ofNat 16 params.length) ++ params ++ halfBytes check

/-- The header byte of a frame kind a desk receiver takes, with address 0 (R174). -/
def FrameKind.headerByte : FrameKind → Byte
  | .levels => headerOf 1 0
  | .command => headerOf 4 0

/-- The header of a frame taken by a desk's receiver, unless it is the last character that the receiver
took (assumption 10). -/
def takeHeader (d : Desk) (kind : FrameKind) (s : State) : State :=
  if (s.desk d).receiver.state = .inFrame kind [] then s else receive d ⟨kind.headerByte, true, true⟩ s

/-- A frame of some kind received: its header, then its unmarked characters. -/
def receiveFrame (d : Desk) (kind : FrameKind) (bytes : List Byte) (s : State) : State :=
  receiveRun d bytes (takeHeader d kind s)

/-- LEVELS_FRAME (R51). -/
def execLevelsFrame (desk : Desk) (base : Half) (levels : List Byte) (s : State) :
    Host.Outcome State Fault Refusal :=
  .next (receiveFrame desk .levels (levelsFrameBytes base levels) s)

/-- LEVELS_FRAME_REFUSED (R50). -/
def execLevelsFrameRefused (desk : Desk) (base : Half) (count : Byte) (s : State) :
    Host.Outcome State Fault Refusal :=
  .next (receiveFrame desk .levels (halfBytes base ++ [count]) s)

/-- COMMAND_FRAME (R52). -/
def execCommandFrame (desk : Desk) (tag code : Byte) (params : List Byte) (check : Half) (s : State) :
    Host.Outcome State Fault Refusal :=
  .next (receiveFrame desk .command (commandFrameBytes tag code params check) s)

/-- COMMAND_LENGTH_REFUSED (R52). -/
def execCommandLengthRefused (desk : Desk) (tag code : Byte) (length : Half) (s : State) :
    Host.Outcome State Fault Refusal :=
  .next (receiveFrame desk .command ([tag, code] ++ halfBytes length) s)

/-- MARKED_CHARACTER_IN_FRAME (R47). -/
def execMarkedCharacterInFrame (desk : Desk) (data : Byte) (s : State) :
    Host.Outcome State Fault Refusal :=
  .next (receive desk ⟨data, true, true⟩ s)

/-- FRAMING_ERROR (R49). -/
def execFramingError (desk : Desk) (mark : Bool) (data : Byte) (s : State) :
    Host.Outcome State Fault Refusal :=
  .next (receive desk ⟨data, mark, false⟩ s)

/-- DESK_TIMEOUT (R55). -/
def execDeskTimeout (desk : Desk) (s : State) : Host.Outcome State Fault Refusal :=
  .next (checkTimeout desk s)

/-- LOSS_FADE_EXPIRY (R57). -/
def execLossFadeExpiry (desk : Desk) (s : State) : Host.Outcome State Fault Refusal :=
  .next (expireFade desk s)

/-- REPLY_SENT (R150). -/
def execReplySent (desk : Desk) (s : State) : Host.Outcome State Fault Refusal :=
  .next (replyDone desk s)

/-- SCAN_START (R68). -/
def execScanStart (s : State) : Host.Outcome State Fault Refusal :=
  .next (scanStartIfDue s)

/-- COMPUTE_END (R78). -/
def execComputeEnd (s : State) : Host.Outcome State Fault Refusal :=
  .next (computeEndIfComputing s)

/-- RESTART_CARRIED_OUT (R159). -/
def execRestartCarriedOut (s : State) : Host.Outcome State Fault Refusal :=
  .next (restartMoment s)

/-- RACK_FRAME_END (R123). -/
def execRackFrameEnd (link : Fin 4) (s : State) : Host.Outcome State Fault Refusal :=
  .next (s.setLink link (s.links.get link).frameEnd)

/-- REFRESH (R127). -/
def execRefresh (link : Fin 4) (s : State) : Host.Outcome State Fault Refusal :=
  .next (refreshLink link s)

/-- CONTACT_INPUT_CHANGE (R133). -/
def execContactInputChange (contact : Fin 4) (high : Bool) (s : State) :
    Host.Outcome State Fault Refusal :=
  .next (changeContact contact high s)

/-- DEBOUNCE_EXPIRY (R134). -/
def execDebounceExpiry (contact : Fin 4) (s : State) : Host.Outcome State Fault Refusal :=
  .next (debounceEnd contact s)

/-- CLOCK_MATCH (R137). -/
def execClockMatch (clock : Fin 3) (s : State) : Host.Outcome State Fault Refusal :=
  .next (owedAdvance clock s)

/-- STORE_DONE (R171). -/
def execStoreDone (s : State) : Host.Outcome State Fault Refusal :=
  .next (storeCompleted s)

/-- STORE_FAILED (R171). -/
def execStoreFailed (s : State) : Host.Outcome State Fault Refusal :=
  .next (storeFaulted s)

/-- FRAME_HEADER_IN_HUNT (R47). -/
def execFrameHeaderInHunt (desk : Desk) (data : Byte) (s : State) :
    Host.Outcome State Fault Refusal :=
  .next (receive desk ⟨data, true, true⟩ s)

end Sys2Proof.Machine
end

