-- ==== Sys2Proof/Machine/PatchRequests.lean ====
section
/-! DEFINITION. The patch, swap and output stage requests as commands of the block: each is the arrival, from one desk, of the
accepted COMMAND frame that carries it (R149), and goes through the command buffer, the arbiter, the four
checks and the dispatch to its owner. -/

namespace Sys2Proof.Machine

/-- SET CIRCUIT (R92). -/
def execSetCircuit (desk : Desk) (tag bank : Byte) (circuit source : Half)
    (proportion law preheat topSet : Byte) (s : State) :
    Host.Outcome State Fault Refusal :=
  .next (requestArrives desk tag (.setCircuit bank circuit source proportion law preheat topSet) s)

/-- COPY BANK (R94). -/
def execCopyBank (desk : Desk) (tag : Byte) (source : Byte) (destination : Byte) (s : State) :
    Host.Outcome State Fault Refusal :=
  .next (requestArrives desk tag (.copyBank source destination) s)

/-- CLEAR BANK (R95). -/
def execClearBank (desk : Desk) (tag : Byte) (bank : Byte) (s : State) :
    Host.Outcome State Fault Refusal :=
  .next (requestArrives desk tag (.clearBank bank) s)

/-- SELECT BANK (R98). -/
def execSelectBank (desk : Desk) (tag bank method playback : Byte) (s : State) :
    Host.Outcome State Fault Refusal :=
  .next (requestArrives desk tag (.selectBank bank method playback) s)

/-- CANCEL SWAP (R99). -/
def execCancelSwap (desk : Desk) (tag : Byte) (s : State) :
    Host.Outcome State Fault Refusal :=
  .next (requestArrives desk tag .cancelSwap s)

/-- LOAD LAW (R111). -/
def execLoadLaw (desk : Desk) (tag law kind : Byte) (body : List Byte) (s : State) :
    Host.Outcome State Fault Refusal :=
  .next (requestArrives desk tag (.loadLaw law kind body) s)

/-- PARK (R116). -/
def execPark (desk : Desk) (tag : Byte) (circuit : Half) (level : Byte) (s : State) :
    Host.Outcome State Fault Refusal :=
  .next (requestArrives desk tag (.park circuit level) s)

/-- UNPARK (R117). -/
def execUnpark (desk : Desk) (tag : Byte) (circuit : Half) (s : State) :
    Host.Outcome State Fault Refusal :=
  .next (requestArrives desk tag (.unpark circuit) s)

/-- UNPARK ALL (R117). -/
def execUnparkAll (desk : Desk) (tag : Byte) (s : State) :
    Host.Outcome State Fault Refusal :=
  .next (requestArrives desk tag .unparkAll s)

end Sys2Proof.Machine
end

