-- ==== Sys2Proof/Machine/PlaybackRequests.lean ====
section
/-! DEFINITION. The playback requests as commands of the block: each is the arrival, from one desk, of the
accepted COMMAND frame that carries it (R149), and goes through the command buffer, the arbiter, the four
checks and the dispatch to its owner. -/

namespace Sys2Proof.Machine

/-- GO (R28). -/
def execGo (desk : Desk) (tag : Byte) (playback : Byte) (s : State) :
    Host.Outcome State Fault Refusal :=
  .next (requestArrives desk tag (.go playback) s)

/-- GOTO (R30). -/
def execGoto (desk : Desk) (tag playback : Byte) (cue override : Half) (s : State) :
    Host.Outcome State Fault Refusal :=
  .next (requestArrives desk tag (.goto playback cue override) s)

/-- BACK (R31). -/
def execBack (desk : Desk) (tag : Byte) (playback : Byte) (s : State) :
    Host.Outcome State Fault Refusal :=
  .next (requestArrives desk tag (.back playback) s)

/-- PAUSE (R33). -/
def execPause (desk : Desk) (tag : Byte) (playback : Byte) (s : State) :
    Host.Outcome State Fault Refusal :=
  .next (requestArrives desk tag (.pause playback) s)

/-- RESUME (R34). -/
def execResume (desk : Desk) (tag : Byte) (playback : Byte) (s : State) :
    Host.Outcome State Fault Refusal :=
  .next (requestArrives desk tag (.resume playback) s)

/-- RELEASE (R32). -/
def execRelease (desk : Desk) (tag : Byte) (playback : Byte) (s : State) :
    Host.Outcome State Fault Refusal :=
  .next (requestArrives desk tag (.release playback) s)

/-- LOAD LIST (R37). -/
def execLoadList (desk : Desk) (tag : Byte) (playback : Byte) (list : Byte) (s : State) :
    Host.Outcome State Fault Refusal :=
  .next (requestArrives desk tag (.loadList playback list) s)

/-- UNLOAD (R38). -/
def execUnload (desk : Desk) (tag : Byte) (playback : Byte) (s : State) :
    Host.Outcome State Fault Refusal :=
  .next (requestArrives desk tag (.unload playback) s)

/-- SET MASTER (R39). -/
def execSetMaster (desk : Desk) (tag : Byte) (playback : Byte) (master : Byte) (s : State) :
    Host.Outcome State Fault Refusal :=
  .next (requestArrives desk tag (.setMaster playback master) s)

/-- SET RATE (R40). -/
def execSetRate (desk : Desk) (tag : Byte) (playback : Byte) (rate : Half) (s : State) :
    Host.Outcome State Fault Refusal :=
  .next (requestArrives desk tag (.setRate playback rate) s)

/-- SET PLAYBACK TIMES (R41). -/
def execSetPlaybackTimes (desk : Desk) (tag playback : Byte) (releaseTime backTime : Half)
    (s : State) :
    Host.Outcome State Fault Refusal :=
  .next (requestArrives desk tag (.setPlaybackTimes playback releaseTime backTime) s)

end Sys2Proof.Machine
end

