-- ==== Sys2Proof/Machine/ReadRequests.lean ====
section
/-! DEFINITION. The read requests as commands of the block: each is the arrival, from one desk, of the
accepted COMMAND frame that carries it (R149), and goes through the command buffer, the arbiter, the four
checks and the dispatch to its owner. -/

namespace Sys2Proof.Machine

/-- READ STATUS (R160). -/
def execReadStatus (desk : Desk) (tag : Byte) (s : State) :
    Host.Outcome State Fault Refusal :=
  .next (requestArrives desk tag .readStatus s)

/-- READ DESK (R64). -/
def execReadDesk (desk : Desk) (tag : Byte) (target : Byte) (clear : Byte) (s : State) :
    Host.Outcome State Fault Refusal :=
  .next (requestArrives desk tag (.readDesk target clear) s)

/-- READ PLAYBACK (R43). -/
def execReadPlayback (desk : Desk) (tag : Byte) (playback : Byte) (channel : Half) (s : State) :
    Host.Outcome State Fault Refusal :=
  .next (requestArrives desk tag (.readPlayback playback channel) s)

/-- READ CHANNEL (R84). -/
def execReadChannel (desk : Desk) (tag : Byte) (channel : Half) (s : State) :
    Host.Outcome State Fault Refusal :=
  .next (requestArrives desk tag (.readChannel channel) s)

/-- READ CIRCUIT (R119). -/
def execReadCircuit (desk : Desk) (tag : Byte) (circuit : Half) (s : State) :
    Host.Outcome State Fault Refusal :=
  .next (requestArrives desk tag (.readCircuit circuit) s)

/-- READ CUE (R15). -/
def execReadCue (desk : Desk) (tag : Byte) (list : Byte) (cue : Half) (s : State) :
    Host.Outcome State Fault Refusal :=
  .next (requestArrives desk tag (.readCue list cue) s)

/-- READ BANK ENTRY (R96). -/
def execReadBankEntry (desk : Desk) (tag : Byte) (bank : Byte) (circuit : Half) (s : State) :
    Host.Outcome State Fault Refusal :=
  .next (requestArrives desk tag (.readBankEntry bank circuit) s)

/-- READ LAW (R113). -/
def execReadLaw (desk : Desk) (tag : Byte) (law : Byte) (s : State) :
    Host.Outcome State Fault Refusal :=
  .next (requestArrives desk tag (.readLaw law) s)

/-- READ TRIGGERS (R147). -/
def execReadTriggers (desk : Desk) (tag : Byte) (s : State) :
    Host.Outcome State Fault Refusal :=
  .next (requestArrives desk tag .readTriggers s)

end Sys2Proof.Machine
end

