-- ==== Sys2Proof/Machine/SettingRequests.lean ====
section
/-! DEFINITION. The scan, desk, rack link and trigger requests as commands of the block: each is the arrival, from one desk, of the
accepted COMMAND frame that carries it (R149), and goes through the command buffer, the arbiter, the four
checks and the dispatch to its owner. -/

namespace Sys2Proof.Machine

/-- SET GRAND MASTER (R86). -/
def execSetGrandMaster (desk : Desk) (tag : Byte) (level : Byte) (s : State) :
    Host.Outcome State Fault Refusal :=
  .next (requestArrives desk tag (.setGrandMaster level) s)

/-- BLACKOUT (R86). -/
def execBlackout (desk : Desk) (tag : Byte) (setting : Byte) (s : State) :
    Host.Outcome State Fault Refusal :=
  .next (requestArrives desk tag (.blackout setting) s)

/-- SET SCAN (R67). -/
def execSetScan (desk : Desk) (tag : Byte) (period : Byte) (s : State) :
    Host.Outcome State Fault Refusal :=
  .next (requestArrives desk tag (.setScan period) s)

/-- SET DESK (R62). -/
def execSetDesk (desk : Desk) (tag target : Byte) (timeout : Half) (lossAction : Byte)
    (lossFadeTime : Half) (merge rights : Byte) (s : State) :
    Host.Outcome State Fault Refusal :=
  .next (requestArrives desk tag (.setDesk target timeout lossAction lossFadeTime merge rights) s)

/-- SET LINK (R128). -/
def execSetLink (desk : Desk) (tag link enabled mask : Byte) (s : State) :
    Host.Outcome State Fault Refusal :=
  .next (requestArrives desk tag (.setLink link enabled mask) s)

/-- SET CONTACT (R135). -/
def execSetContact (desk : Desk) (tag contact edge debounce : Byte) (s : State) :
    Host.Outcome State Fault Refusal :=
  .next (requestArrives desk tag (.setContact contact edge debounce) s)

/-- SET CLOCK (R139). -/
def execSetClock (desk : Desk) (tag clock mode : Byte) (compare load : Quad) (s : State) :
    Host.Outcome State Fault Refusal :=
  .next (requestArrives desk tag (.setClock clock mode compare load) s)

/-- CLOCK ACTION (R138). -/
def execClockAction (desk : Desk) (tag : Byte) (clock : Byte) (action : Byte) (s : State) :
    Host.Outcome State Fault Refusal :=
  .next (requestArrives desk tag (.clockAction clock action) s)

/-- SET WATCH (R141). -/
def execSetWatch (desk : Desk) (tag watch : Byte) (circuit : Half)
    (condition threshold enabled : Byte) (s : State) :
    Host.Outcome State Fault Refusal :=
  .next (requestArrives desk tag (.setWatch watch circuit condition threshold enabled) s)

/-- SET ROUTE (R142). -/
def execSetRoute (desk : Desk)
    (tag route enabled sourceKind sourceSubject taskKind taskTarget : Byte) (s : State) :
    Host.Outcome State Fault Refusal :=
  .next (requestArrives desk tag
    (.setRoute route enabled sourceKind sourceSubject taskKind taskTarget) s)

end Sys2Proof.Machine
end

