-- ==== Sys2Proof/Machine/Dispatch.lean ====
section
/-! DEFINITION. The dispatch of a command to its meaning, one arm for each row of the opcode table. -/

namespace Sys2Proof.Machine

def exec (i : Instr) (s : State) : Host.Outcome State Fault Refusal :=
  match i with
  | .powerOn => Sys2Proof.Machine.execPowerOn s
  | .showClockTick => Sys2Proof.Machine.execShowClockTick s
  | .levelsFrame desk base levels => Sys2Proof.Machine.execLevelsFrame desk base levels s
  | .levelsFrameRefused desk base count => Sys2Proof.Machine.execLevelsFrameRefused desk base count s
  | .commandFrame desk tag code params check => Sys2Proof.Machine.execCommandFrame desk tag code params check s
  | .commandLengthRefused desk tag code length => Sys2Proof.Machine.execCommandLengthRefused desk tag code length s
  | .markedCharacterInFrame desk data => Sys2Proof.Machine.execMarkedCharacterInFrame desk data s
  | .framingError desk mark data => Sys2Proof.Machine.execFramingError desk mark data s
  | .deskTimeout desk => Sys2Proof.Machine.execDeskTimeout desk s
  | .lossFadeExpiry desk => Sys2Proof.Machine.execLossFadeExpiry desk s
  | .replySent desk => Sys2Proof.Machine.execReplySent desk s
  | .scanStart => Sys2Proof.Machine.execScanStart s
  | .computeEnd => Sys2Proof.Machine.execComputeEnd s
  | .go desk tag playback => Sys2Proof.Machine.execGo desk tag playback s
  | .goto desk tag playback cue override => Sys2Proof.Machine.execGoto desk tag playback cue override s
  | .back desk tag playback => Sys2Proof.Machine.execBack desk tag playback s
  | .pause desk tag playback => Sys2Proof.Machine.execPause desk tag playback s
  | .resume desk tag playback => Sys2Proof.Machine.execResume desk tag playback s
  | .release desk tag playback => Sys2Proof.Machine.execRelease desk tag playback s
  | .loadList desk tag playback list => Sys2Proof.Machine.execLoadList desk tag playback list s
  | .unload desk tag playback => Sys2Proof.Machine.execUnload desk tag playback s
  | .setMaster desk tag playback master => Sys2Proof.Machine.execSetMaster desk tag playback master s
  | .setRate desk tag playback rate => Sys2Proof.Machine.execSetRate desk tag playback rate s
  | .setPlaybackTimes desk tag playback releaseTime backTime => Sys2Proof.Machine.execSetPlaybackTimes desk tag playback releaseTime backTime s
  | .writeCue desk tag list cue upTime downTime upDelay downDelay follow link count entries => Sys2Proof.Machine.execWriteCue desk tag list cue upTime downTime upDelay downDelay follow link count entries s
  | .deleteCue desk tag list cue => Sys2Proof.Machine.execDeleteCue desk tag list cue s
  | .clearList desk tag list => Sys2Proof.Machine.execClearList desk tag list s
  | .setCircuit desk tag bank circuit source proportion law preheat topSet => Sys2Proof.Machine.execSetCircuit desk tag bank circuit source proportion law preheat topSet s
  | .copyBank desk tag source destination => Sys2Proof.Machine.execCopyBank desk tag source destination s
  | .clearBank desk tag bank => Sys2Proof.Machine.execClearBank desk tag bank s
  | .selectBank desk tag bank method playback => Sys2Proof.Machine.execSelectBank desk tag bank method playback s
  | .cancelSwap desk tag => Sys2Proof.Machine.execCancelSwap desk tag s
  | .loadLaw desk tag law kind body => Sys2Proof.Machine.execLoadLaw desk tag law kind body s
  | .park desk tag circuit level => Sys2Proof.Machine.execPark desk tag circuit level s
  | .unpark desk tag circuit => Sys2Proof.Machine.execUnpark desk tag circuit s
  | .unparkAll desk tag => Sys2Proof.Machine.execUnparkAll desk tag s
  | .setGrandMaster desk tag level => Sys2Proof.Machine.execSetGrandMaster desk tag level s
  | .blackout desk tag setting => Sys2Proof.Machine.execBlackout desk tag setting s
  | .setScan desk tag period => Sys2Proof.Machine.execSetScan desk tag period s
  | .setDesk desk tag target timeout lossAction lossFadeTime merge rights => Sys2Proof.Machine.execSetDesk desk tag target timeout lossAction lossFadeTime merge rights s
  | .setLink desk tag link enabled mask => Sys2Proof.Machine.execSetLink desk tag link enabled mask s
  | .setContact desk tag contact edge debounce => Sys2Proof.Machine.execSetContact desk tag contact edge debounce s
  | .setClock desk tag clock mode compare load => Sys2Proof.Machine.execSetClock desk tag clock mode compare load s
  | .clockAction desk tag clock action => Sys2Proof.Machine.execClockAction desk tag clock action s
  | .setWatch desk tag watch circuit condition threshold enabled => Sys2Proof.Machine.execSetWatch desk tag watch circuit condition threshold enabled s
  | .setRoute desk tag route enabled sourceKind sourceSubject taskKind taskTarget => Sys2Proof.Machine.execSetRoute desk tag route enabled sourceKind sourceSubject taskKind taskTarget s
  | .takeReports desk tag count => Sys2Proof.Machine.execTakeReports desk tag count s
  | .setReportMask desk tag mask => Sys2Proof.Machine.execSetReportMask desk tag mask s
  | .clearFlags desk tag selection => Sys2Proof.Machine.execClearFlags desk tag selection s
  | .store desk tag => Sys2Proof.Machine.execStore desk tag s
  | .restart desk tag => Sys2Proof.Machine.execRestart desk tag s
  | .readStatus desk tag => Sys2Proof.Machine.execReadStatus desk tag s
  | .readDesk desk tag target clear => Sys2Proof.Machine.execReadDesk desk tag target clear s
  | .readPlayback desk tag playback channel => Sys2Proof.Machine.execReadPlayback desk tag playback channel s
  | .readChannel desk tag channel => Sys2Proof.Machine.execReadChannel desk tag channel s
  | .readCircuit desk tag circuit => Sys2Proof.Machine.execReadCircuit desk tag circuit s
  | .readCue desk tag list cue => Sys2Proof.Machine.execReadCue desk tag list cue s
  | .readBankEntry desk tag bank circuit => Sys2Proof.Machine.execReadBankEntry desk tag bank circuit s
  | .readLaw desk tag law => Sys2Proof.Machine.execReadLaw desk tag law s
  | .readTriggers desk tag => Sys2Proof.Machine.execReadTriggers desk tag s
  | .restartCarriedOut => Sys2Proof.Machine.execRestartCarriedOut s
  | .rackFrameEnd link => Sys2Proof.Machine.execRackFrameEnd link s
  | .refresh link => Sys2Proof.Machine.execRefresh link s
  | .contactInputChange contact high => Sys2Proof.Machine.execContactInputChange contact high s
  | .debounceExpiry contact => Sys2Proof.Machine.execDebounceExpiry contact s
  | .clockMatch clock => Sys2Proof.Machine.execClockMatch clock s
  | .storeDone => Sys2Proof.Machine.execStoreDone s
  | .storeFailed => Sys2Proof.Machine.execStoreFailed s
  | .frameHeaderInHunt desk data => Sys2Proof.Machine.execFrameHeaderInHunt desk data s

end Sys2Proof.Machine
end

