-- ==== Sys2Proof/Safety.lean ====
section
/-! DEFINITION. The terms in which claims about the part are stated: the request a row carries, when a
request is taken at once, the state in which a request has been answered, and the invariants that every
step keeps. -/

namespace Sys2Proof

open Machine in
/-- The request that a request row carries, with its desk and tag; none for an occurrence. -/
def Instr.request : Instr → Option (Desk × Byte × Request)
  | .go d tag p => some (d, tag, .go p)
  | .goto d tag p cue ovr => some (d, tag, .goto p cue ovr)
  | .back d tag p => some (d, tag, .back p)
  | .pause d tag p => some (d, tag, .pause p)
  | .resume d tag p => some (d, tag, .resume p)
  | .release d tag p => some (d, tag, .release p)
  | .loadList d tag p l => some (d, tag, .loadList p l)
  | .unload d tag p => some (d, tag, .unload p)
  | .setMaster d tag p m => some (d, tag, .setMaster p m)
  | .setRate d tag p x => some (d, tag, .setRate p x)
  | .setPlaybackTimes d tag p x y => some (d, tag, .setPlaybackTimes p x y)
  | .writeCue d tag l cue ut dt ud dd fo li n es =>
    some (d, tag, .writeCue l cue ut dt ud dd fo li n (entryBytes es))
  | .deleteCue d tag l cue => some (d, tag, .deleteCue l cue)
  | .clearList d tag l => some (d, tag, .clearList l)
  | .setCircuit d tag b c src prop law pre top => some (d, tag, .setCircuit b c src prop law pre top)
  | .copyBank d tag src dst => some (d, tag, .copyBank src dst)
  | .clearBank d tag b => some (d, tag, .clearBank b)
  | .selectBank d tag b m p => some (d, tag, .selectBank b m p)
  | .cancelSwap d tag => some (d, tag, .cancelSwap)
  | .loadLaw d tag l k body => some (d, tag, .loadLaw l k body)
  | .park d tag c level => some (d, tag, .park c level)
  | .unpark d tag c => some (d, tag, .unpark c)
  | .unparkAll d tag => some (d, tag, .unparkAll)
  | .setGrandMaster d tag x => some (d, tag, .setGrandMaster x)
  | .blackout d tag x => some (d, tag, .blackout x)
  | .setScan d tag x => some (d, tag, .setScan x)
  | .setDesk d tag target t act fade mrg rts => some (d, tag, .setDesk target t act fade mrg rts)
  | .setLink d tag l e m => some (d, tag, .setLink l e m)
  | .setContact d tag c e t => some (d, tag, .setContact c e t)
  | .setClock d tag c m cmp ld => some (d, tag, .setClock c m cmp ld)
  | .clockAction d tag c a => some (d, tag, .clockAction c a)
  | .setWatch d tag w c cond thr en => some (d, tag, .setWatch w c cond thr en)
  | .setRoute d tag r en sk ss tk tt => some (d, tag, .setRoute r en sk ss tk tt)
  | .takeReports d tag n => some (d, tag, .takeReports n)
  | .setReportMask d tag m => some (d, tag, .setReportMask m)
  | .clearFlags d tag x => some (d, tag, .clearFlags x)
  | .store d tag => some (d, tag, .store)
  | .restart d tag => some (d, tag, .restart)
  | .readStatus d tag => some (d, tag, .readStatus)
  | .readDesk d tag target c => some (d, tag, .readDesk target c)
  | .readPlayback d tag p c => some (d, tag, .readPlayback p c)
  | .readChannel d tag c => some (d, tag, .readChannel c)
  | .readCircuit d tag c => some (d, tag, .readCircuit c)
  | .readCue d tag l c => some (d, tag, .readCue l c)
  | .readBankEntry d tag b c => some (d, tag, .readBankEntry b c)
  | .readLaw d tag l => some (d, tag, .readLaw l)
  | .readTriggers d tag => some (d, tag, .readTriggers)
  | .powerOn | .showClockTick | .levelsFrame .. | .levelsFrameRefused .. | .commandFrame .. => none
  | .commandLengthRefused .. | .markedCharacterInFrame .. | .framingError .. => none
  | .deskTimeout .. | .lossFadeExpiry .. | .replySent .. | .scanStart | .computeEnd => none
  | .restartCarriedOut | .rackFrameEnd .. | .refresh .. => none
  | .contactInputChange .. | .debounceExpiry .. | .clockMatch .. | .storeDone | .storeFailed => none
  | .frameHeaderInHunt .. => none

end Sys2Proof

namespace Sys2Proof.Machine

/-! ### The path of a request -/

/-- The check that a console computes for a COMMAND frame (R52, R177). -/
def frameCheck (tag code : Byte) (params : List Byte) : Half :=
  checkSum ([tag, code] ++ halfBytes (BitVec.ofNat 16 params.length) ++ params)

/-- A receiver that can take a whole frame of some kind: in HUNT, or with that frame's header just taken. -/
def readyFor (d : Desk) (kind : FrameKind) (s : State) : Prop :=
  (s.desk d).receiver.state = .hunt ∨ (s.desk d).receiver.state = .inFrame kind []

/-- Whether the parameters of a request fit its layout: WRITE CUE has any body, LOAD LAW one of two
lengths (R154). -/
def Request.fits : Request → Bool
  | .loadLaw _ _ body => decide (body.length = 17) || decide (body.length = 4)
  | _ => true

/-- The command processor is free to take a command of desk `d` the moment it arrives (R149, R151):
the desk's buffer is EMPTY, the processor IDLE and the other buffer not WAITING. -/
structure Free (d : Desk) (s : State) : Prop where
  buffer : (s.desk d).port.buffer = .empty
  idle : s.processor.state = .idle
  alone : (s.desk d.other).port.buffer.waitingCommand = none

/-- A request of desk `d` that arrives now reaches its owner now: the processor is free, the four checks
pass (R152), and the request is not of a held class while the phase is COMPUTING (R156). -/
structure TakenAtOnce (d : Desk) (r : Request) (s : State) : Prop where
  free : Free d s
  fits : r.fits = true
  permitted : s.permits d r.code = true
  notStoring : (r.changesStored && s.memory.isStoring) = false
  notHeld : s.level.phase = .waiting ∨ r.isHeld s = false

/-- The state as the owner of a command sees it: the buffer of the sending desk TAKEN, the processor
EXECUTING and the arbiter's mark on that desk (R149, R151). -/
def begunAs (d : Desk) (c : Command) (s : State) : State :=
  { s.setPort d ⟨.taken c, (s.desk d).port.replies⟩ with processor := ⟨.executing d, d⟩ }

/-- The state in which a command has been answered, when its owner has left `u`: the final reply stands
at the end of the desk's reply list with the flags of that moment, the buffer is ANSWERING and the
processor IDLE (R149 to R151, R157). -/
def answeredAs (d : Desk) (c : Command) (x : Result) (data : List Byte) (u : State) : State :=
  { u.setPort d
      ⟨.answering c, (u.desk d).port.replies ++ [⟨.final, c.tag, c.code, x, replyFlags u, data⟩]⟩ with
    processor := ⟨.idle, d⟩ }

/-- The state as the owner of a request sees it. -/
def begun (d : Desk) (tag : Byte) (r : Request) (s : State) : State := begunAs d (r.command tag) s

/-- The state in which a request has been answered. -/
def answered (d : Desk) (tag : Byte) (r : Request) (x : Result) (data : List Byte) (u : State) : State :=
  answeredAs d (r.command tag) x data u

/-- A playback that is not PAUSED with these records, current cue and follow, its state set from R18 and
its clock 0 when that state is IDLE (R20). -/
def Playback.settledWith (pb : Playback) (records : Table FadeRecord 768) (current follow : Option Nat) :
    Playback :=
  let moving := records.any (·.moving)
  { pb with
    records := records
    current := current
    follow := follow
    state := if moving then .fading else if follow.isSome then .waiting else .idle
    clock := if moving || follow.isSome then pb.clock else 0 }

/-- The events of a GO, GOTO or BACK once its moves are set: PLAYBACK GO, and PLAYBACK DONE when no record
is moving (R26, R35, R36). -/
def goEvents (k : Fin 6) (cue : Nat) (records : Table FadeRecord 768) : List Event :=
  ⟨.playbackGo, numbered k, cue⟩ ::
    if records.any (·.moving) then [] else [⟨.playbackDone, numbered k, cue⟩]

/-- The records of a playback after the entries of cue `c` have set their moves at a fade clock value, every
other record as it was (R26). -/
def Cue.MovesSet (c : Cue) (clock : Nat) (before after : Table FadeRecord 768) : Prop :=
  (∀ e ∈ c.entries, after.get e.channel = (before.get e.channel).setMove clock (expand e.level)
    ⟨c.upDelay, c.upTime⟩ ⟨c.downDelay, c.downTime⟩) ∧
  ∀ ch, (∀ e ∈ c.entries, e.channel ≠ ch) → after.get ch = before.get ch

/-- LINK MISSING, when the link of the current cue names a cue that is not in the list (R25). -/
def missingEvents (k : Fin 6) (l : CueList) (current : Option Nat) : List Event :=
  match missingLink l current with
  | some n => [⟨.linkMissing, numbered k, n⟩]
  | none => []

/-- Whether an event meets a route: the route is enabled, its source kind is the event's, and its source
subject is the event's, or the kind is SWAP DONE (R143). -/
abbrev Route.Meets (x : Route) (e : Event) : Prop :=
  x.enabled = true ∧ x.source.kind = e.kind ∧ (e.kind = .swapDone ∨ x.source.subject = some e.subject)

/-- Whether a post makes a transmitter discard a pending set: it is enabled, with a mask that is not empty,
SENDING, and holds one (R124). -/
def Transmitter.skips (t : Transmitter) : Bool :=
  t.enabled && t.mask != 0 && t.state != .idle && t.queued.isSome

/-- The reads of the catalogue. -/
def Request.isRead : Request → Bool
  | .readStatus | .readDesk .. | .readPlayback .. | .readChannel .. | .readCircuit .. => true
  | .readCue .. | .readBankEntry .. | .readLaw .. | .readTriggers => true
  | _ => false

/-- A request that names an item which does not exist (R157, NO SUCH), by its item numbers alone. -/
def Request.namesMissingItem : Request → Bool
  | .go p | .goto p _ _ | .back p | .pause p | .resume p | .release p | .loadList p _ | .unload p
  | .setMaster p _ | .setRate p _ | .setPlaybackTimes p _ _ | .readPlayback p _ =>
    (number 6 p.toNat).isNone
  | .writeCue l _ _ _ _ _ _ _ _ _ | .deleteCue l _ | .clearList l | .readCue l _ =>
    (number 8 l.toNat).isNone
  | .setCircuit b _ _ _ _ _ _ | .clearBank b | .selectBank b _ _ | .readBankEntry b _ =>
    (number 4 b.toNat).isNone
  | .copyBank src dst => (number 4 src.toNat).isNone || (number 4 dst.toNat).isNone
  | .loadLaw l _ _ | .readLaw l => (index 8 l.toNat).isNone
  | .setDesk d _ _ _ _ _ | .readDesk d _ => (deskOfCode d.toNat).isNone
  | .setLink l _ _ => (number 4 l.toNat).isNone
  | .setContact c _ _ => (number 4 c.toNat).isNone
  | .setClock c _ _ _ | .clockAction c _ => (number 3 c.toNat).isNone
  | .setWatch w _ _ _ _ => (number 8 w.toNat).isNone
  | .setRoute r _ _ _ _ _ => (number 16 r.toNat).isNone
  | _ => false

/-! ### The cue store (R1 to R5) -/

/-- A cue record whose fields lie in their ranges and whose entries are in strictly ascending channel
(R2, R4). -/
structure Cue.Legal (c : Cue) : Prop where
  number : 1 ≤ c.number ∧ c.number ≤ 9999
  times : c.upTime ≤ 6000 ∧ c.downTime ≤ 6000 ∧ c.upDelay ≤ 6000 ∧ c.downDelay ≤ 6000
  follow : ∀ f ∈ c.follow, f ≤ 6000
  link : ∀ k ∈ c.link, 1 ≤ k ∧ k ≤ 9999
  entries : c.entries.Pairwise fun a b => a.channel < b.channel

/-- Eight lists in strictly ascending cue number, of legal cues, within the two totals (R1, R5). -/
structure CuesLegal (lists : Table CueList 8) : Prop where
  ordered : ∀ l : Fin 8, (lists.get l).Pairwise fun a b => a.number < b.number
  legal : ∀ l : Fin 8, ∀ c ∈ lists.get l, c.Legal
  cues : cueCount lists ≤ 1000
  entries : entryCount lists ≤ 32768

/-- The image that the show memory holds or writes. -/
def ShowMemory.image : ShowMemory → Option Image
  | .valid image => some image
  | .storing image _ => some image
  | .invalid => none

/-- The cue store keeps R1, R2, R4 and R5, and so does an image of it. -/
structure CueStoreInv (s : State) : Prop where
  store : CuesLegal s.lists
  image : ∀ i ∈ s.memory.image, CuesLegal i.lists

/-! ### The playbacks (R17 to R19) -/

/-- A playback in the condition that R18 gives for its state, with its settings in the ranges of R17. -/
structure Playback.Legal (pb : Playback) : Prop where
  empty : pb.state = .empty ↔ pb.loaded = none
  emptyClear : pb.state = .empty → pb.current = none ∧ pb.follow = none ∧
    pb.records = Table.fill 768 .cleared
  idle : pb.state = .idle → pb.moving = false ∧ pb.follow = none ∧ pb.clock = 0
  fading : pb.state = .fading → pb.moving = true
  waiting : pb.state = .waiting → pb.moving = false ∧ pb.follow.isSome = true
  paused : pb.state = .paused → pb.moving = true ∨ pb.follow.isSome = true
  rate : 25 ≤ pb.rate ∧ pb.rate ≤ 400
  times : pb.releaseTime ≤ 6000 ∧ pb.backTime ≤ 6000
  clock : pb.clock ≤ 2 ^ 64 - 1

/-- Every playback is legal, and the times that an image holds are in range. -/
structure PlaybacksInv (s : State) : Prop where
  legal : ∀ p : Fin 6, (s.playbacks.get p).Legal
  image : ∀ i ∈ s.memory.image, ∀ p : Fin 6,
    (i.playbacks.get p).releaseTime ≤ 6000 ∧ (i.playbacks.get p).backTime ≤ 6000

/-! ### Levels (R19, R66) -/

/-- A fade record on the intensity scale: at rest at its target, or between its start and its target
(R19). -/
structure FadeRecord.Legal (r : FadeRecord) : Prop where
  start : r.start ≤ 4095
  target : r.target ≤ 4095
  rest : r.moving = false → r.level = r.target
  between : min r.start r.target ≤ r.level ∧ r.level ≤ max r.start r.target ∨ r.moving = false

/-- The values of a scan on their scales (R66). -/
structure ScanRecord.Legal (r : ScanRecord) : Prop where
  desks : ∀ c : Fin 768, r.deskA.levels.get c ≤ 4095 ∧ r.deskB.levels.get c ≤ 4095
  contributions : ∀ (p : Fin 6) (c : Fin 768), (r.contributions.get p).get c ≤ 4095
  channels : ∀ c : Fin 768, r.merged.get c ≤ 4095 ∧ r.levels.get c ≤ r.merged.get c
  circuits : ∀ k : Fin 1536, (r.circuits.get k).intensity ≤ 4095 ∧ (r.circuits.get k).output ≤ 255

/-- The sets a transmitter holds are output values (R121). -/
def Transmitter.setsLegal (t : Transmitter) : Prop :=
  ∀ x, t.current = some x ∨ t.queued = some x ∨ t.last = some x → ∀ i : Fin 384, x.get i ≤ 255

/-- Every live value, playback level, channel level and circuit intensity lies in 0 to 4095, and every
output value in 0 to 255 (R66); no proportion is above 100 (R89). -/
structure LevelsInv (s : State) : Prop where
  live : ∀ (d : Desk) (c : Fin 768), (s.desk d).monitor.live.get c ≤ 4095
  records : ∀ (p : Fin 6) (c : Fin 768), ((s.playbacks.get p).records.get c).Legal
  work : s.level.work.Legal
  last : s.level.last.Legal
  sets : ∀ l : Fin 4, (s.links.get l).setsLegal
  banks : ∀ (b : Fin 4) (k : Fin 1536), ((s.patch.banks.get b).get k).proportion ≤ 100
  image : ∀ i ∈ s.memory.image, ∀ (b : Fin 4) (k : Fin 1536), ((i.banks.get b).get k).proportion ≤ 100

/-! ### Settings (R48, R61, R67, R105, R111, R115, R133, R140, R165) -/

/-- The settings of a desk in their ranges (R61). -/
def DeskSettings.legal (x : DeskSettings) : Prop :=
  100 ≤ x.timeout ∧ x.timeout ≤ 5000 ∧ x.lossFadeTime ≤ 600

/-- A law within R105: a SWITCH has its on threshold above its off threshold, on the intensity scale. -/
def Law.legal : Law → Prop
  | .switch on off => off < on ∧ on ≤ 4095
  | .linear | .curve _ => True

/-- Settings and counts in their ranges: Desk A has FULL rights (R61), a desk has a last-LEVELS time
exactly when it is not ABSENT (R54), a loss fade runs only while LOST (R56), Law 0 is LINEAR (R105), the scan
period lies in 4 to 40 and the scan timer within the period in force (R67), error counts stop at 65,535
(R48), the park list is in ascending circuit with at most 48 entries (R115), the report queue holds at
most 32 reports (R165), and the stored settings are in range. -/
structure SettingsInv (s : State) : Prop where
  rightsA : s.deskA.monitor.settings.rights = .full
  desks : ∀ d : Desk, (s.desk d).monitor.settings.legal ∧ (s.desk d).receiver.errors ≤ 65535
  arrivals : ∀ d : Desk, (s.desk d).monitor.state = .absent ↔ (s.desk d).monitor.lastLevels = none
  fades : ∀ d : Desk, (s.desk d).monitor.fadeRunning = true →
    (s.desk d).monitor.state = .lost ∧ (s.desk d).monitor.loss.isSome = true
  period : 4 ≤ s.level.period ∧ s.level.period ≤ 40
  inForce : 4 ≤ s.level.inForce ∧ s.level.inForce ≤ 40 ∧ s.level.timer ≤ s.level.inForce
  lawZero : s.patch.laws.get 0 = .linear
  laws : ∀ l : Fin 8, (s.patch.laws.get l).legal
  parks : (s.patch.parks.Pairwise fun a b => a.circuit < b.circuit) ∧ s.patch.parks.length ≤ 48
  queue : s.reports.queue.length ≤ 32
  image : ∀ i ∈ s.memory.image, i.deskA.legal ∧ i.deskB.legal ∧ (4 ≤ i.period ∧ i.period ≤ 40) ∧
    ∀ l : Fin 8, (i.laws.get l).legal

/-! ### Command buffers, reply lists and the processor (R149 to R151, R159) -/

/-- Whether a reply is the reply of the command in its desk's buffer. -/
def Reply.isOwn (r : Reply) : Bool :=
  match r.kind with
  | .final | .restart => true
  | .busy | .orphan => false

/-- Whether a buffer is ANSWERING. -/
def Buffer.isAnswering : Buffer → Bool
  | .answering _ => true
  | .empty | .waiting _ | .taken _ => false

/-- Whether the processor is HOLDING. -/
def ProcessorState.isHolding : ProcessorState → Bool
  | .holding _ => true
  | .idle | .executing _ => false

/-- The routes whose tasks wait in a held-request list. -/
def heldRoutes (held : List Held) : List (Fin 16) :=
  held.filterMap fun h => match h with
    | .task r _ => some r
    | .command .. => none

/-- How many commands wait in a held-request list. -/
def heldCommands (held : List Held) : Nat :=
  held.countP fun h => match h with
    | .command .. => true
    | .task .. => false

/-- One desk's buffer and reply list (R149, R150): at most three BUSY replies; one reply of its own when
the buffer is ANSWERING and none otherwise; a RESTART's reply while the processor is EXECUTING that
RESTART, and only then; the buffer TAKEN while the processor is HOLDING that desk's command, and only
then; no command WAITING at an IDLE processor. -/
structure PortLegal (s : State) (d : Desk) : Prop where
  busy : busyReplies (s.desk d).port.replies ≤ 3
  own : (s.desk d).port.replies.countP Reply.isOwn =
    if (s.desk d).port.buffer.isAnswering then 1 else 0
  restart : (∃ r ∈ (s.desk d).port.replies, r.kind = .restart) ↔ s.processor.state = .executing d
  taken : (∃ c, (s.desk d).port.buffer = .taken c) ↔ s.processor.state = .holding d
  waiting : s.processor.state = .idle → (s.desk d).port.buffer.waitingCommand = none

/-- Both desks' buffers and reply lists, and the one command that may wait in the held-request list: that
of the desk for which the processor is HOLDING (R77, R151). -/
structure PortsInv (s : State) : Prop where
  desks : ∀ d : Desk, PortLegal s d
  one : heldCommands s.level.held ≤ 1
  held : ∀ d : Desk, s.processor.state = .holding d ↔ ∃ c r, Held.command d c r ∈ s.level.held

/-! ### The held-request list (R76, R77, R143) -/

/-- The held-request list is empty while the phase is WAITING; it holds at most one command, which the
processor is HOLDING, and at most one task of each route, whose holdoff mark is set (R77). -/
structure HeldInv (s : State) : Prop where
  waiting : s.level.phase = .waiting → s.level.held = []
  commands : heldCommands s.level.held ≤ if s.processor.state.isHolding then 1 else 0
  routes : (heldRoutes s.level.held).Nodup
  marks : ∀ r ∈ heldRoutes s.level.held, (s.triggers.routes.get r).holdoff = true

/-! ### Rack transmitters (R121, R125, R127, R129) -/

/-- A transmitter as R121 describes it. IDLE: no current set, no cycle and no pending set; SENDING: its
rack is in the cycle, which is in ascending address, the current set is the last set and the refresh timer
is stopped. The refresh timer runs only while IDLE and enabled, with a last set; a disabled IDLE
transmitter holds no set. -/
structure Transmitter.Legal (t : Transmitter) : Prop where
  idle : t.state = .idle → t.current = none ∧ t.cycle = [] ∧ t.queued = none
  sending : ∀ a, t.state = .sending a →
    a ∈ t.cycle ∧ t.current.isSome = true ∧ t.last = t.current ∧ t.refresh = none
  ascending : t.cycle.Pairwise fun a b => a < b
  refresh : t.refresh.isSome = true → t.state = .idle ∧ t.enabled = true ∧ t.last.isSome = true
  disabled : t.state = .idle → t.enabled = false → t.last = none

/-- Every rack transmitter is legal. -/
def LinksInv (s : State) : Prop := ∀ l : Fin 4, (s.links.get l).Legal

/-! ### The trigger unit (R133, R136, R140) -/

/-- Contacts, clocks and watches as R133, R136 and R140 describe them: a debounce timer runs exactly when
the input differs from the accepted level; an advance is owed only by a clock that is not STOPPED, which is
the model's own mark (assumptions 6 and 20); a watch is OFF exactly when it is not enabled, and holds a last output only after an evaluation. -/
structure TriggersInv (s : State) : Prop where
  contacts : ∀ c : Fin 4, ((s.triggers.contacts.get c).timer.isSome = true ↔
    (s.triggers.contacts.get c).input ≠ (s.triggers.contacts.get c).accepted)
  debounce : ∀ c : Fin 4, (s.triggers.contacts.get c).debounce ≤ 250
  clocks : ∀ c : Fin 3, (s.triggers.clocks.get c).owed = true → (s.triggers.clocks.get c).state ≠ .stopped
  watches : ∀ w : Fin 8, ((s.triggers.watches.get w).state = .off ↔
    (s.triggers.watches.get w).enabled = false)
  outputs : ∀ w : Fin 8, (s.triggers.watches.get w).lastOutput.isSome = true ↔
    (s.triggers.watches.get w).state = .clear ∨ (s.triggers.watches.get w).state = .met
  image : ∀ i ∈ s.memory.image, ∀ c : Fin 4, (i.contacts.get c).debounce ≤ 250

end Sys2Proof.Machine
end

