-- ==== Sys2Proof/WellFormed.lean ====
section
/-! DEFINITION. Which command terms name an occurrence that the line can carry. The meanings are total:
what an ill-formed term does is what its characters do at the receiver, or what its bytes do at the
command processor. -/

namespace Sys2Proof

/-- The frame kind of a header (R174). -/
def headerNibble (header : Byte) : Nat := (header.extractLsb' 4 4).toNat

/-- The parameter length of a request row that carries a list, in bytes (R179). -/
def Instr.listLength : Instr → Nat
  | .writeCue _ _ _ _ _ _ _ _ _ _ _ entries => 17 + 3 * entries.length
  | .loadLaw _ _ _ _ body => 2 + body.length
  | .commandFrame _ _ _ params _ => params.length
  | _ => 0

/-- Whether a term names an occurrence that the line can carry:
a LEVELS frame that passes the checks of R50 and holds as many levels as its count byte can say;
a refused LEVELS header that fails one of them; a COMMAND frame within the 2,400 bytes of R52, and a
refused length above them; a header of a kind the receiver takes (R47); a LOAD LAW body of one of its
two lengths (R154). -/
def Instr.wellFormed (i : Instr) : Bool :=
  match i with
  | .levelsFrame _ base levels =>
    decide (1 ≤ base.toNat) && decide (base.toNat ≤ 768) && decide (1 ≤ levels.length) &&
      decide (levels.length ≤ 255)
  | .levelsFrameRefused _ base count =>
    decide (base.toNat = 0) || decide (768 < base.toNat) || decide (count = 0)
  | .commandLengthRefused _ _ _ length => decide (2400 < length.toNat)
  | .frameHeaderInHunt _ data => decide (headerNibble data = 1) || decide (headerNibble data = 4)
  | .loadLaw _ _ _ _ body => decide (body.length = 17) || decide (body.length = 4)
  | .writeCue .. | .commandFrame .. => decide (i.listLength ≤ 2400)
  | _ => true

end Sys2Proof
end

