-- ==== Sys2Proof/Certificates/Slice0/Obligations.lean ====
section
/-! DEFINITION. The statements for the provers. A request row is stated through the exact state that
follows: `begun` is the state as the owner sees it, `answered` the state in which the reply has been made. -/

open Sys2Proof Sys2Proof.Machine

/-! ### The path of a command -/

/-- A step executes the command at the front of the queue with the queue's rest; on an empty queue the
block idles, which is the model's choice (assumption 9). -/
def Obligations.StepRunsTheFrontCommand : Prop :=
  (∀ (c : Instr) (rest : List Instr) (s : State),
    step { s with pending := c :: rest } = exec c { s with pending := rest }) ∧
  ∀ s : State, step { s with pending := [] } = .next { s with pending := [] }

/-- Checks 2 and 3 of R152 read exactly the parameter layouts of R179: no bit of a request is dropped, and
no other bytes are read as a request. -/
def Obligations.ParseReadsExactlyTheRequestLayouts : Prop :=
  ∀ (code : Byte) (params : List Byte) (r : Request),
    parse code params = .request r ↔ r.fits = true ∧ code = r.code ∧ params = r.params

/-- A COMMAND frame that carries a request, received from HUNT or after its header, does what the request's
own row does, and the receiver is back in HUNT (R52, R149, R179). That a row carries a whole frame, and what a
request row stands for, are assumptions 10 and 11. -/
def Obligations.RequestFrameDoesWhatItsRowDoes : Prop :=
  ∀ (i : Instr) (d : Desk) (tag : Byte) (r : Request) (s : State),
    i.wellFormed = true → i.request = some (d, tag, r) →
    (s.desk d).receiver.state = .hunt ∨ (s.desk d).receiver.state = .inFrame .command [] →
    exec (.commandFrame d tag r.code r.params (frameCheck tag r.code r.params)) s =
      exec i (s.setReceiver d { (s.desk d).receiver with state := .hunt })

/-- The four checks of R152 decide in their order, each with its outcome and no data, and a command they
refuse changes nothing but its buffer, its reply list and the arbiter's mark. -/
def Clause.ChecksDecideInOrder : Prop :=
  ∀ (d : Desk) (tag code : Byte) (params : List Byte) (s : State),
    Free d s → (s.desk d).receiver.state = .hunt → params.length ≤ 2400 →
    let c : Command := ⟨tag, code, params⟩
    let frame := Instr.commandFrame d tag code params (frameCheck tag code params)
    let refused := fun x => Host.Outcome.next (answeredAs d c x [] (begunAs d c s))
    (s.permits d code = false → exec frame s = refused .notPermitted) ∧
    (s.permits d code = true → code.toNat ∉ knownCodes → exec frame s = refused .badRequest) ∧
    (s.permits d code = true → code.toNat ∈ knownCodes → layout code.toNat params = none →
      exec frame s = refused .badRequest) ∧
    (s.permits d code = true → ∀ r, parse code params = .request r → r.changesStored = true →
      s.memory.isStoring = true → exec frame s = refused .busy)

/-- Check 1 of R152 by the table of R153: every request of Desk A passes; of Desk B every request with
FULL rights, the playback class with PLAYBACK rights, and READ STATUS alone with rights NONE. -/
def Clause.RightsAllowTheirClass : Prop :=
  ∀ (s : State) (r : Request),
    s.permits .A r.code = true ∧
    (s.deskB.monitor.settings.rights = .full → s.permits .B r.code = true) ∧
    (s.deskB.monitor.settings.rights = .playback →
      (s.permits .B r.code = true ↔
        match r with
        | .go .. | .goto .. | .back .. | .pause .. | .resume .. | .release .. | .setMaster ..
        | .setRate .. | .setGrandMaster .. | .blackout .. | .takeReports .. => True
        | _ => r.isRead = true)) ∧
    (s.deskB.monitor.settings.rights = .none → (s.permits .B r.code = true ↔ r = .readStatus))

/-- The table of R155: the requests that check 4 refuses BUSY while show memory is STORING, and no others. -/
def Clause.StoringRefusesItsTable : Prop :=
  ∀ r : Request, r.changesStored = match r with
    | .loadList .. | .unload .. | .setPlaybackTimes .. | .writeCue .. | .deleteCue .. | .clearList ..
    | .setCircuit .. | .copyBank .. | .clearBank .. | .loadLaw .. | .setScan .. | .setDesk .. | .setLink ..
    | .setContact .. | .setClock .. | .setWatch .. | .setRoute .. | .setReportMask .. | .store
    | .restart => true
    | _ => false

/-- The four checks in their order, with the tables of rights and of the requests refused during a store (R152
to R155). -/
def Obligations.ChecksAndRightsDecideInOrder : Prop :=
  Clause.ChecksDecideInOrder ∧ Clause.RightsAllowTheirClass ∧ Clause.StoringRefusesItsTable

/-- A command that finds its buffer not EMPTY is answered BUSY with its own tag and code, or discarded when
the reply list holds three BUSY replies; nothing else changes (R149, R150). -/
def Clause.SecondCommandIsAnsweredBusy : Prop :=
  ∀ (i : Instr) (d : Desk) (tag : Byte) (r : Request) (s : State),
    i.request = some (d, tag, r) → (s.desk d).port.buffer ≠ .empty →
    let p := (s.desk d).port
    (busyReplies p.replies < 3 → exec i s =
      .next (s.setPort d ⟨p.buffer, p.replies ++ [⟨.busy, tag, r.code, .busy, replyFlags s, []⟩]⟩)) ∧
    (3 ≤ busyReplies p.replies → exec i s = .next s)

/-- A command that arrives while the processor is busy waits in its buffer, by its row or as an accepted
COMMAND frame with its check (R52, R149, R151), and the IDLE processor takes a WAITING command of the desk not
served most recently first (R151). -/
def Clause.WaitingCommandsAreServedInTurn : Prop :=
  (∀ (i : Instr) (d : Desk) (tag : Byte) (r : Request) (s : State),
    i.request = some (d, tag, r) → (s.desk d).port.buffer = .empty → s.processor.state ≠ .idle →
    exec i s = .next (s.setPort d ⟨.waiting (r.command tag), (s.desk d).port.replies⟩)) ∧
  (∀ (d : Desk) (tag code : Byte) (params : List Byte) (s : State),
    readyFor d .command s → params.length ≤ 2400 →
    (s.desk d).port.buffer = .empty → s.processor.state ≠ .idle →
    exec (.commandFrame d tag code params (frameCheck tag code params)) s =
      .next (s.setDesk d
        { s.desk d with
          receiver := { (s.desk d).receiver with state := .hunt }
          port := ⟨.waiting ⟨tag, code, params⟩, (s.desk d).port.replies⟩ })) ∧
  ∀ (s : State) (x : Desk) (c : Command),
    nextCommand s = some (x, c) ↔
      s.processor.state = .idle ∧ (s.desk x).port.buffer = .waiting c ∧
        (x = s.processor.served → (s.desk x.other).port.buffer.waitingCommand = none)

/-- Commands that arrive while their buffer or the processor is busy (R149 to R151). -/
def Obligations.ArrivalsAtABusyBufferOrProcessor : Prop :=
  Clause.SecondCommandIsAnsweredBusy ∧ Clause.WaitingCommandsAreServedInTurn

/-- A request of a held class that passes the checks while the phase is COMPUTING joins the held-request
list at its tail, and the processor is HOLDING; it is not answered and reaches no owner (R76, R156). -/
def Clause.HeldRequestJoinsTheList : Prop :=
  ∀ (i : Instr) (d : Desk) (tag : Byte) (r : Request) (s : State),
    i.request = some (d, tag, r) → Free d s → r.fits = true → s.permits d r.code = true →
    (r.changesStored && s.memory.isStoring) = false → s.level.phase = .computing → r.isHeld s = true →
    exec i s = .next
      { begun d tag r s with
        level := { s.level with held := s.level.held ++ [.command d (r.command tag) r] }
        processor := ⟨.holding d, d⟩ }

/-- The held classes of requests: playback held, cue store, level processor, output stage and swap; SET
CIRCUIT, COPY BANK and CLEAR BANK exactly when the bank they write is the active bank as they arrive; no other
request, a read or a setting among them (R76, R91, R156). -/
def Clause.HeldClassesOfRequests : Prop :=
  ∀ (r : Request) (s : State), r.isHeld s = match r with
    | .go .. | .goto .. | .back .. | .release .. | .pause .. | .resume .. | .loadList .. | .unload ..
    | .setMaster .. | .setRate .. | .setPlaybackTimes .. | .writeCue .. | .deleteCue .. | .clearList ..
    | .setGrandMaster .. | .blackout .. | .loadLaw .. | .park .. | .unpark .. | .unparkAll
    | .selectBank .. | .cancelSwap => true
    | .setCircuit bank .. | .copyBank _ bank | .clearBank bank =>
      decide (bank.toNat = s.level.activeBank.val + 1)
    | _ => false

/-- A request of a held class waits for compute end while the phase is COMPUTING, with the classes as R76 lists
them. -/
def Obligations.HeldClassWaitsForComputeEnd : Prop :=
  Clause.HeldRequestJoinsTheList ∧ Clause.HeldClassesOfRequests

/-- A request whose number names no existing playback, list, bank, law, desk, link, contact, clock, watch
or route is answered NO SUCH and changes nothing (R24, R157 and the first check of each owner). That NO SUCH
comes before OUT OF RANGE for READ CUE, READ PLAYBACK, READ BANK ENTRY and SET PLAYBACK TIMES, whose rules
R15, R43, R96 and R41 give no order, is assumption 26. -/
def Clause.MissingItemIsNoSuch : Prop :=
  ∀ (i : Instr) (d : Desk) (tag : Byte) (r : Request) (s : State),
    i.request = some (d, tag, r) → TakenAtOnce d r s → r.namesMissingItem = true →
    exec i s = .next (answered d tag r .noSuch [] (begun d tag r s))

/-- The numbers that name an item: 1 to n for the items counted from 1, 0 to 7 for laws, 1 and 2 for the desks
(section 7.5, R178). -/
def Clause.NumbersNameTheirItems : Prop :=
  (∀ (n k : Nat) (x : Fin n), number n k = some x ↔ k = x.val + 1) ∧
  (∀ (n : Nat) (x : Fin n), numbered x = x.val + 1) ∧
  (∀ (n k : Nat) (x : Fin n), index n k = some x ↔ k = x.val) ∧
  deskCode .A = 1 ∧ deskCode .B = 2 ∧ ∀ (k : Nat) (d : Desk), deskOfCode k = some d ↔ k = deskCode d

/-- A number that names no item is refused NO SUCH, and the numbers that do name one. -/
def Obligations.MissingItemsAreRefusedNoSuch : Prop :=
  Clause.MissingItemIsNoSuch ∧ Clause.NumbersNameTheirItems

/-- A REPLY frame leaves its list when its last character is sent; the buffer whose own reply it was becomes
EMPTY (R149, R150). With an empty list it changes nothing (assumption 8). -/
def Obligations.ReplySentEmptiesItsBuffer : Prop :=
  ∀ (d : Desk) (s : State),
    ((s.desk d).port.replies = [] → exec (.replySent d) s = .next s) ∧
    ∀ (r : Reply) (rest : List Reply), (s.desk d).port.replies = r :: rest →
      ((r.kind = .busy ∨ r.kind = .orphan) →
        exec (.replySent d) s = .next (s.setPort d ⟨(s.desk d).port.buffer, rest⟩)) ∧
      (r.kind = .final → exec (.replySent d) s = .next (s.setPort d ⟨.empty, rest⟩))

/-- RESTART is answered DONE first: its reply joins the list, the buffer is ANSWERING and the processor
stays EXECUTING; nothing else changes yet (R159). -/
def Clause.RestartIsAnsweredFirst : Prop :=
  ∀ (d : Desk) (tag : Byte) (s : State), TakenAtOnce d .restart s →
    exec (.restart d tag) s = .next
      { s.setPort d ⟨.answering ⟨tag, 121, []⟩,
          (s.desk d).port.replies ++ [⟨.restart, tag, 121, .done, replyFlags s, []⟩]⟩ with
        processor := ⟨.executing d, d⟩ }

/-- When the last character of a RESTART's DONE reply has been sent, every block takes its RESTART values
(R16, R45, R65, R87, R88, R103, R120, R132, R148, R159, R162, R173). That the reply the other desk's line is
sending stays in its list whole but for its kind, as no desk's own, is assumption 12. That RESTART_CARRIED_OUT and the REPLY_SENT of
that reply are one moment, and the period in force after it, are assumption 19; the latch after it is
assumption 24. -/
def Clause.RestartCarriedOutResetsEveryBlock : Prop :=
  ∀ (d : Desk) (s : State),
    (∃ r ∈ (s.desk d).port.replies, r.kind = .restart) →
    (∀ r ∈ (s.desk d.other).port.replies, r.kind ≠ .restart) →
    ∃ t : State, exec .restartCarriedOut s = .next t ∧
      (∀ r rest, (s.desk d).port.replies = r :: rest → r.kind = .restart →
        exec (.replySent d) s = .next t) ∧
      (∀ x, (t.desk x).receiver = ⟨.hunt, 0⟩ ∧
        (t.desk x).monitor = .afterReset (s.desk x).monitor.settings ∧
        (t.desk x).port.buffer = .empty) ∧
      (t.desk d).port.replies = [] ∧
      (t.desk d.other).port.replies = ((s.desk d.other).port.replies.take 1).map (fun r =>
        { r with kind := if r.kind = .final then .orphan else r.kind }) ∧
      (∀ p, t.playbacks.get p = .afterReset (s.playbacks.get p).loaded (s.playbacks.get p).releaseTime
        (s.playbacks.get p).backTime) ∧
      t.level = .afterReset s.level.period s.level.activeBank t.playbacks ∧
      t.patch.banks = s.patch.banks ∧ t.patch.laws.get 0 = .linear ∧
      (∀ l, l ≠ 0 → t.patch.laws.get l = s.patch.laws.get l) ∧
      t.patch.parks = [] ∧ (∀ k, t.patch.switches.get k = false) ∧
      t.links = s.links ∧ t.lists = s.lists ∧
      (∀ c, t.triggers.contacts.get c =
        { s.triggers.contacts.get c with
          accepted := (s.triggers.contacts.get c).input, timer := none }) ∧
      (∀ c, t.triggers.clocks.get c =
        { s.triggers.clocks.get c with count := 0, state := .stopped, owed := false }) ∧
      (∀ w, t.triggers.watches.get w =
        { s.triggers.watches.get w with
          state := if (s.triggers.watches.get w).enabled then .priming else .off, lastOutput := none }) ∧
      t.triggers.routes = s.triggers.routes ∧
      t.processor = ⟨.idle, .B⟩ ∧ t.reports = ⟨[], 0, s.reports.mask, false⟩ ∧ t.showClock = 0 ∧
      t.memory = s.memory ∧ t.choices = s.choices ∧ t.pending = s.pending

/-- The values that both resets give a playback (R45), a desk monitor (R65), the level processor and its last
completed scan record (R83, R88), and power-on a rack transmitter (R132). The latched inputs are all 0 but for
the latched grand master, 255, and `beforeScan` is the model's own field (assumptions 20 and 24). -/
def Clause.BlocksTakeTheirResetValues : Prop :=
  (∀ (loaded : Option (Fin 8)) (releaseTime backTime : Nat),
    Playback.afterReset loaded releaseTime backTime =
      { state := if loaded.isSome then .idle else .empty, loaded := loaded, current := none, clock := 0
        follow := none, master := 255, rate := 100, releaseTime := releaseTime, backTime := backTime
        records := Table.fill 768 ⟨0, 0, 0, 0, 0, 0, false⟩, scanEvents := [] }) ∧
  (∀ settings : DeskSettings, Monitor.afterReset settings =
    { state := .absent, live := Table.fill 768 0, lastLevels := none, lastBase1 := none
      refreshInterval := none, loss := none, fadeRunning := false, settings := settings }) ∧
  (∀ (period : Nat) (bank : Fin 4) (playbacks : Table Playback 6),
    let nothing : DeskPresent := ⟨false, Table.fill 768 0, false⟩
    let record : ScanRecord :=
      { start := 0, deskA := nothing, deskB := nothing, contributions := Table.fill 6 (Table.fill 768 0)
        merged := Table.fill 768 0, levels := Table.fill 768 0, grandMaster := 255, blackout := false
        bank := bank, circuits := Table.fill 1536 ⟨0, 0, false, false⟩, dark := false }
    let latched : DeskLatch := ⟨false, Table.fill 768 0, none⟩
    LevelProcessor.afterReset period bank playbacks =
      { phase := .waiting, timer := period, period := period, inForce := period, grandMaster := 255
        blackout := false, activeBank := bank, staged := none, newBank := none
        latch := ⟨latched, latched, 255, false, Table.fill 6 0, 0⟩
        work := record, held := [], dark := false, last := record, beforeScan := playbacks }) ∧
  ∀ (enabled : Bool) (mask : BitVec 4), Transmitter.afterPowerOn enabled mask =
    { enabled := enabled, mask := mask, state := .idle, current := none, cycle := [], queued := none
      last := none, refresh := none }

/-- RESTART is answered first and carried out when its reply has been sent (R159, R162). -/
def Obligations.RestartIsAnsweredThenCarriedOut : Prop :=
  Clause.RestartIsAnsweredFirst ∧ Clause.RestartCarriedOutResetsEveryBlock ∧
    Clause.BlocksTakeTheirResetValues

/-- POWER_ON with an INVALID memory, or with a store cut short, brings every stored item to its factory value
and every block to its power-on value: the state of `State.reset` but for the contact inputs, which belong to
the world, and the model's own queue and counter (R171, R172). That they are kept is assumption 23. -/
def Clause.PowerOnWithoutImageGivesFactoryValues : Prop :=
  ∀ s : State, s.memory.isValid = false →
    exec .powerOn s = .next
      { State.reset with
        triggers := { State.reset.triggers with
          contacts := s.triggers.contacts.map fun x => ⟨.off, 20, x.input, x.input, none⟩ }
        choices := s.choices
        pending := s.pending }

/-- POWER_ON with a VALID memory gives every stored item its stored value (R170, R172), with the rights of
Desk A FULL (R61), Law 0 LINEAR (R105) and everything else at its power-on value. -/
def Clause.PowerOnLoadsTheImage : Prop :=
  ∀ (s : State) (i : Image), s.memory = .valid i →
    ∃ t : State, exec .powerOn s = .next t ∧
      t.deskA = { DeskUnit.factory .A with monitor := .afterReset { i.deskA with rights := .full } } ∧
      t.deskB = { DeskUnit.factory .B with monitor := .afterReset i.deskB } ∧
      t.lists = i.lists ∧
      (∀ p, t.playbacks.get p = .afterReset (i.playbacks.get p).loaded (i.playbacks.get p).releaseTime
        (i.playbacks.get p).backTime) ∧
      t.level = .afterReset i.period i.activeBank t.playbacks ∧
      t.patch.banks = i.banks ∧ t.patch.laws.get 0 = .linear ∧
      (∀ l, l ≠ 0 → t.patch.laws.get l = i.laws.get l) ∧
      t.patch.parks = [] ∧ (∀ k, t.patch.switches.get k = false) ∧
      (∀ l, t.links.get l = .afterPowerOn (i.links.get l).enabled (i.links.get l).mask) ∧
      (∀ c, t.triggers.contacts.get c =
        ⟨(i.contacts.get c).edge, (i.contacts.get c).debounce, (s.triggers.contacts.get c).input,
          (s.triggers.contacts.get c).input, none⟩) ∧
      (∀ c, t.triggers.clocks.get c =
        ⟨(i.clocks.get c).mode, (i.clocks.get c).compare, (i.clocks.get c).load, 0, .stopped, false⟩) ∧
      (∀ w, t.triggers.watches.get w =
        ⟨(i.watches.get w).circuit, (i.watches.get w).condition, (i.watches.get w).threshold,
          (i.watches.get w).enabled, if (i.watches.get w).enabled then .priming else .off, none⟩) ∧
      (∀ r, t.triggers.routes.get r =
        ⟨(i.routes.get r).enabled, (i.routes.get r).source, (i.routes.get r).task, false⟩) ∧
      t.processor = ⟨.idle, .B⟩ ∧ t.reports = ⟨[], 0, i.mask, false⟩ ∧ t.showClock = 0 ∧
      t.memory = .valid i ∧ t.choices = s.choices ∧ t.pending = s.pending

/-- The state after reset, item by item: each stored item at its factory value (R61, R114, R172), every block at
its power-on value, the arbiter's mark on Desk B (R162), every report enabled. The INVALID memory and the low
contacts are the model's choice (assumption 4), `choices` and `pending` its own fields (assumption 20). -/
def Clause.ResetHoldsTheFactoryValues : Prop :=
  let s := State.reset
  let playback := Playback.afterReset none 20 10
  let unit := fun settings => DeskUnit.mk ⟨.hunt, 0⟩ (.afterReset settings) ⟨.empty, []⟩
  s.deskA = unit ⟨1000, .hold, 30, .htp, .full⟩ ∧ s.deskB = unit ⟨1000, .hold, 30, .htp, .playback⟩ ∧
  (∀ l, s.lists.get l = []) ∧ (∀ p, s.playbacks.get p = playback) ∧
  s.level = .afterReset 10 0 (Table.fill 6 playback) ∧
  (∀ b k, (s.patch.banks.get b).get k = ⟨none, 100, 0, 0, 255⟩) ∧ s.patch.laws.get 0 = .linear ∧
  (∀ l, l ≠ 0 → ∃ points : Table Byte 17, s.patch.laws.get l = .curve points ∧
    ∀ i, (points.get i).toNat = (i.val * 255 + 8) / 16) ∧
  s.patch.parks = [] ∧ (∀ k, s.patch.switches.get k = false) ∧
  (∀ l, s.links.get l = .afterPowerOn true 15) ∧
  (∀ c, s.triggers.contacts.get c = ⟨.off, 20, false, false, none⟩) ∧
  (∀ c, s.triggers.clocks.get c = ⟨.oneShot, 0, 0, 0, .stopped, false⟩) ∧
  (∀ w, s.triggers.watches.get w = ⟨0, .above, 255, false, .off, none⟩) ∧
  (∀ r, s.triggers.routes.get r = ⟨false, .contact 0, .go 0, false⟩) ∧
  s.processor = ⟨.idle, .B⟩ ∧ s.reports = ⟨[], 0, 0x3fff, false⟩ ∧ s.showClock = 0 ∧
  s.memory = .invalid ∧ s.choices = 0 ∧ s.pending = []

/-- POWER_ON gives every stored item its factory value without a valid image, and its stored value with
one, and every block its power-on values (R16, R45, R61, R65, R88, R103, R114, R120, R132, R148, R162, R170
to R173). -/
def Obligations.PowerOnGivesTheImageOrFactoryValues : Prop :=
  Clause.PowerOnWithoutImageGivesFactoryValues ∧ Clause.PowerOnLoadsTheImage ∧
    Clause.ResetHoldsTheFactoryValues

/-! ### Desk links -/

/-- An accepted LEVELS frame is applied in one step: its slots, expanded, over the live array, with the faded values
written back first when a loss fade runs, the arrival recorded, the desk ACTIVE, and DESK BACK raised from
ABSENT with detail 0 and from LOST with detail 1 (R51, R54, R58, R59, R60). That the row carries the whole
frame is assumption 10. -/
def Obligations.LevelsFrameIsAppliedWhole : Prop :=
  ∀ (d : Desk) (base : Half) (levels : List Byte) (s : State),
    (Instr.levelsFrame d base levels).wellFormed = true → readyFor d .levels s →
    let m := (s.desk d).monitor
    (m.fadeRunning = true → m.loss.isSome = true) →
    let kept := fun c : Fin 768 => match m.fadeRunning, m.loss with
      | true, some x => fadedLevel (elapsed s.showClock x.moment) x.fadeTime (m.live.get c)
      | _, _ => m.live.get c
    ∃ m' : Monitor,
      (let s' := s.setDesk d
        { s.desk d with receiver := { (s.desk d).receiver with state := .hunt }, monitor := m' }
      exec (.levelsFrame d base levels) s = .next (match m.state with
        | .absent => raiseEvent ⟨.deskBack, deskCode d, 0⟩ s'
        | .active => s'
        | .lost => raiseEvent ⟨.deskBack, deskCode d, 1⟩ s')) ∧
      m'.state = .active ∧ m'.lastLevels = some s.showClock ∧ m'.fadeRunning = false ∧
      m'.loss = m.loss ∧ m'.settings = m.settings ∧
      (base = 1 → m'.lastBase1 = some s.showClock ∧ m'.refreshInterval = match m.lastBase1 with
        | some t => some (s.showClock - t)
        | none => m.refreshInterval) ∧
      (base ≠ 1 → m'.lastBase1 = m.lastBase1 ∧ m'.refreshInterval = m.refreshInterval) ∧
      ∀ c : Fin 768, m'.live.get c =
        if base.toNat ≤ numbered c then match levels[numbered c - base.toNat]? with
          | some x => x.toNat * 16 + x.toNat / 16
          | none => kept c
        else kept c

/-- A LEVELS frame refused for its base or count, a COMMAND frame refused for its length and a COMMAND
frame refused for its check are discarded with one error counted, up to 65,535, and the receiver goes to
HUNT; nothing else changes (R48, R50, R52). -/
def Clause.RefusedFramesCountOneError : Prop :=
  ∀ (d : Desk) (s : State),
    let discarded : Host.Outcome State Fault Refusal :=
      .next (s.setReceiver d ⟨.hunt, min ((s.desk d).receiver.errors + 1) 65535⟩)
    (∀ (base : Half) (count : Byte), readyFor d .levels s →
      (base.toNat = 0 ∨ 768 < base.toNat ∨ count = 0) →
      exec (.levelsFrameRefused d base count) s = discarded) ∧
    (∀ (tag code : Byte) (length : Half), readyFor d .command s → 2400 < length.toNat →
      exec (.commandLengthRefused d tag code length) s = discarded) ∧
    (∀ (tag code : Byte) (params : List Byte) (check : Half), readyFor d .command s →
      params.length ≤ 2400 → check ≠ frameCheck tag code params →
      exec (.commandFrame d tag code params check) s = discarded)

/-- A marked character with a good stop bit is taken as a header: a kind of LEVELS or COMMAND puts the
receiver IN FRAME, any other in HUNT, and a frame in progress is discarded with one error counted (R47,
R48). -/
def Clause.MarkedCharacterBeginsAFrame : Prop :=
  ∀ (d : Desk) (data : Byte) (s : State),
    let r := (s.desk d).receiver
    let state : ReceiverState := match headerNibble data with
      | 1 => .inFrame .levels []
      | 4 => .inFrame .command []
      | _ => .hunt
    let errors := if r.state = .hunt then r.errors else min (r.errors + 1) 65535
    exec (.markedCharacterInFrame d data) s = .next (s.setReceiver d ⟨state, errors⟩) ∧
    exec (.frameHeaderInHunt d data) s = .next (s.setReceiver d ⟨state, errors⟩)

/-- Headers begin frames, and refused frames are discarded with one error counted (R47, R48, R50, R52). -/
def Obligations.FramesBeginAndAreRefused : Prop :=
  Clause.RefusedFramesCountOneError ∧ Clause.MarkedCharacterBeginsAFrame

/-- A framing error counts once, discards any frame in progress and sends the receiver to HUNT, whatever
its mark and data; the unmarked characters that follow change nothing (R49). -/
def Obligations.FramingErrorSendsToHunt : Prop :=
  ∀ (d : Desk) (mark : Bool) (data : Byte) (s : State),
    let t := s.setReceiver d ⟨.hunt, min ((s.desk d).receiver.errors + 1) 65535⟩
    exec (.framingError d mark data) s = .next t ∧
    ∀ x : Byte, receive d ⟨x, false, true⟩ t = t

/-- An ACTIVE desk whose silence reaches its timeout becomes LOST, its loss is captured from the settings and
applied, and DESK LOST is raised with the captured action; at any other moment DESK_TIMEOUT changes nothing
(R55, R56, R59). That other moment is assumption 8. -/
def Clause.DeskTimeoutLosesTheDesk : Prop :=
  ∀ (d : Desk) (s : State),
    let m := (s.desk d).monitor
    let fades := m.settings.lossAction = .fade ∧ 0 < m.settings.lossFadeTime
    (∀ t, m.state = .active → m.lastLevels = some t → m.settings.timeout ≤ elapsed s.showClock t →
      ∃ live : Table Nat 768,
        (∀ c, live.get c = if m.settings.lossAction = .hold ∨ fades then m.live.get c else 0) ∧
        exec (.deskTimeout d) s = .next
          (raiseEvent ⟨.deskLost, deskCode d, m.settings.lossAction.code⟩
            (s.setMonitor d
              { m with
                state := .lost
                loss := some ⟨s.showClock, m.settings.lossAction, m.settings.lossFadeTime * 100⟩
                live := live
                fadeRunning := decide fades }))) ∧
    (¬(m.state = .active ∧ ∃ t, m.lastLevels = some t ∧ m.settings.timeout ≤ elapsed s.showClock t) →
      exec (.deskTimeout d) s = .next s)

/-- A loss fade that has run its captured time leaves every channel of the live array at 0 and runs no longer;
the desk stays LOST and no event is raised; at any other moment LOSS_FADE_EXPIRY changes nothing (R57, R59).
That other moment is assumption 8. -/
def Clause.LossFadeExpiryClearsTheArray : Prop :=
  ∀ (d : Desk) (s : State),
    let m := (s.desk d).monitor
    (∀ x, m.fadeRunning = true → m.loss = some x → x.fadeTime ≤ elapsed s.showClock x.moment →
      exec (.lossFadeExpiry d) s =
        .next (s.setMonitor d { m with live := Table.fill 768 0, fadeRunning := false })) ∧
    (¬(m.fadeRunning = true ∧ ∃ x, m.loss = some x ∧ x.fadeTime ≤ elapsed s.showClock x.moment) →
      exec (.lossFadeExpiry d) s = .next s)

/-- A loss fade's value is the share of the time left, rounded half up; it starts at the live value, never raises a level as time passes, and ends at 0, so that a
returning desk's write-back is at or below what the merge last used (R57, R58). -/
def Clause.LossFadeOnlyFalls : Prop :=
  ∀ e e' t live : Nat, 0 < t → e ≤ e' →
    (e < t → fadedLevel e t live = (live * (t - e) + t / 2) / t) ∧
    fadedLevel 0 t live = live ∧ fadedLevel e' t live ≤ fadedLevel e t live ∧
    fadedLevel e t live ≤ live ∧ (t ≤ e → fadedLevel e t live = 0)

/-- The time elapsed between two show-clock values is their difference modulo 2^32 (R53). -/
def Clause.ElapsedTimeWraps : Prop :=
  ∀ now past : Time, elapsed now past < 2 ^ 32 ∧ past + BitVec.ofNat 32 (elapsed now past) = now

/-- A silent desk is lost, its loss captured and applied, and its loss fade only falls and expires (R55 to
R59). -/
def Obligations.DeskLossIsCapturedAndFaded : Prop :=
  Clause.DeskTimeoutLosesTheDesk ∧ Clause.LossFadeExpiryClearsTheArray ∧ Clause.LossFadeOnlyFalls ∧
    Clause.ElapsedTimeWraps

/-! ### The scan -/

/-- A scan start reloads the timer with the setting, goes to COMPUTING, applies a due swap, latches the inputs
with the P of the scan just ended, clears every holdoff mark, and has each playback do its scan work; of a
staged swap that is not due only the due mark may change, by an automatic GO (R67 to R72). That the scan work
is made at SCAN_START, and the playbacks from before it are kept for READ PLAYBACK, is assumption 16. -/
def Clause.ScanStartDoesItsSteps : Prop :=
  ∀ s : State, s.level.phase = .waiting → s.level.timer = 0 →
    let works := fun p : Fin 6 => (s.playbacks.get p).scanWork s.lists s.level.inForce p
    ∃ t : State, exec .scanStart s = .next t ∧
      t.level.phase = .computing ∧ t.level.timer = s.level.period ∧ t.level.inForce = s.level.period ∧
      (∀ x, s.level.staged = some x → x.due = true →
        t.level.activeBank = x.target ∧ t.level.staged = none ∧
        t.level.newBank = some s.level.activeBank) ∧
      (∀ x, s.level.staged = some x → x.due = false →
        t.level.activeBank = s.level.activeBank ∧ t.level.newBank = s.level.newBank ∧
        t.level.staged = some { x with
          due := decide (∃ p, x.method = .atGo p ∧ (works p).2 = true) }) ∧
      (s.level.staged = none → t.level.staged = none ∧ t.level.activeBank = s.level.activeBank ∧
        t.level.newBank = s.level.newBank) ∧
      t.level.latch = s.latchInputs s.level.inForce ∧
      (∀ r, t.triggers.routes.get r = { s.triggers.routes.get r with holdoff := false }) ∧
      (∀ p, t.playbacks.get p = (works p).1) ∧ t.level.beforeScan = s.playbacks ∧
      t.level.held = s.level.held ∧ t.level.last = s.level.last ∧ t.level.dark = s.level.dark ∧
      t.level.grandMaster = s.level.grandMaster ∧ t.level.blackout = s.level.blackout ∧
      t.level.period = s.level.period ∧ t.deskA = s.deskA ∧ t.deskB = s.deskB ∧ t.lists = s.lists ∧
      t.patch.banks = s.patch.banks ∧ t.patch.laws = s.patch.laws ∧ t.patch.parks = s.patch.parks ∧
      t.links = s.links ∧ t.triggers.contacts = s.triggers.contacts ∧
      t.triggers.clocks = s.triggers.clocks ∧ t.triggers.watches = s.triggers.watches ∧
      t.processor = s.processor ∧ t.reports = s.reports ∧ t.showClock = s.showClock ∧
      t.memory = s.memory ∧ t.choices = s.choices ∧ t.pending = s.pending

/-- The latch copies what R72 lists: for each desk whether it contributes, its live array and its running loss
fade as time elapsed and captured time; the grand master, the blackout, the masters and the scan length (R57,
R63, R72). -/
def Clause.TheLatchCopiesItsInputs : Prop :=
  ∀ (s : State) (length : Nat),
    let x := s.latchInputs length
    x.length = length ∧ x.grandMaster = s.level.grandMaster ∧ x.blackout = s.level.blackout ∧
    (∀ p, x.masters.get p = (s.playbacks.get p).master) ∧
    ∀ d, let m := (s.desk d).monitor
      let y := match d with
        | .A => x.deskA
        | .B => x.deskB
      (y.contributes = true ↔ m.state ≠ .absent ∧ m.settings.merge = .htp) ∧ y.live = m.live ∧
      ∀ e t, y.fade = some (e, t) ↔ m.fadeRunning = true ∧
        ∃ z, m.loss = some z ∧ e = elapsed s.showClock z.moment ∧ t = z.fadeTime

/-- Scan start and the latch it makes (R67 to R72). -/
def Obligations.ScanStartLatchesAndRunsThePlaybacks : Prop :=
  Clause.ScanStartDoesItsSteps ∧ Clause.TheLatchCopiesItsInputs

/-- The values of a scan: each contributing desk presents its live value or its faded value, each playback
contributes its level under its latched master, the merged value is the greatest of them, the channel level
is that under grand master and blackout, and each circuit goes through its record in the active bank and
the output stage, from an OFF switch state when a swap was applied; the scan keeps each of them for its
record (R42, R57, R63, R70, R73 to R75, R83, R90). -/
def Obligations.ScanValuesAreTheMergeThroughThePatch : Prop :=
  ∀ s t : State, s.level.phase = .waiting → s.level.timer = 0 → exec .scanStart s = .next t →
    let contributes := fun (d : Desk) =>
      (s.desk d).monitor.state ≠ .absent ∧ (s.desk d).monitor.settings.merge = .htp
    let presented := fun (d : Desk) (c : Fin 768) =>
      let m := (s.desk d).monitor
      if m.state = .absent ∨ m.settings.merge = .off then 0
      else match m.fadeRunning, m.loss with
        | true, some x => fadedLevel (elapsed s.showClock x.moment) x.fadeTime (m.live.get c)
        | _, _ => m.live.get c
    let contribution := fun (p : Fin 6) (c : Fin 768) =>
      (((t.playbacks.get p).records.get c).level * (s.playbacks.get p).master.toNat + 127) / 255
    let swapped := match s.level.staged with
      | some x => x.due
      | none => false
    let kept := fun (d : Desk) => match d with
      | .A => t.level.work.deskA
      | .B => t.level.work.deskB
    t.level.work.start = s.showClock ∧ t.level.work.bank = t.level.activeBank ∧
    t.level.work.grandMaster = s.level.grandMaster ∧ t.level.work.blackout = s.level.blackout ∧
    (∀ d, ((kept d).contributed = true ↔ contributes d) ∧
      ((kept d).scaled = true ↔ contributes d ∧ (s.desk d).monitor.fadeRunning = true ∧
        (s.desk d).monitor.loss.isSome = true) ∧
      ∀ c, (kept d).levels.get c = presented d c) ∧
    (∀ p c, (t.level.work.contributions.get p).get c = contribution p c) ∧
    (∀ c : Fin 768,
      (∀ v, (v = presented .A c ∨ v = presented .B c ∨ ∃ p, v = contribution p c) →
        v ≤ t.level.work.merged.get c) ∧
      (t.level.work.merged.get c = presented .A c ∨ t.level.work.merged.get c = presented .B c ∨
        ∃ p, t.level.work.merged.get c = contribution p c) ∧
      t.level.work.levels.get c =
        if s.level.blackout then 0
        else (t.level.work.merged.get c * s.level.grandMaster.toNat + 127) / 255) ∧
    ∀ k : Fin 1536,
      let record := (s.patch.banks.get t.level.activeBank).get k
      let intensity := match record.source with
        | none => 0
        | some c => (t.level.work.levels.get c * record.proportion + 50) / 100
      let before := if swapped then false else s.patch.switches.get k
      t.level.work.circuits.get k =
        outputStep s.patch.laws s.patch.parks k record before intensity ∧
      t.patch.switches.get k = (t.level.work.circuits.get k).switchOn

/-- The output step of a circuit: the park level of a parked circuit; on a curve law the law's value between
preheat and top-set, the top-set winning; on a switch law 255 or 0 by the updated state, preheat and top-set
unread; the switch state is left as it stands but on a switch law (R104, R106 to R109, R118). -/
def Obligations.OutputStepFollowsItsThreeCases : Prop :=
  ∀ (laws : Table Law 8) (parks : List Park) (k : Fin 1536) (r : CircuitRecord) (on : Bool) (i : Nat),
    let x := outputStep laws parks k r on i
    x.intensity = i ∧
    ((parks.Pairwise fun a b => a.circuit < b.circuit) → ∀ y ∈ parks, y.circuit = k →
      x.parked = true ∧ x.output = y.level.toNat ∧ x.switchOn = on) ∧
    ((∀ y ∈ parks, y.circuit ≠ k) → x.parked = false ∧
      (laws.get r.law = .linear → x.switchOn = on ∧
        x.output = min (max ((i * 255 + 2047) / 4095) r.preheat.toNat) r.topSet.toNat) ∧
      (∀ points, laws.get r.law = .curve points → x.switchOn = on ∧
        x.output = min (max (curveValue points i) r.preheat.toNat) r.topSet.toNat) ∧
      (∀ up down, laws.get r.law = .switch up down → down < up →
        (x.switchOn = true ↔ up ≤ i ∨ down < i ∧ on = true) ∧
        x.output = if x.switchOn then 255 else 0))

/-- Law 0 is the straight line from 0 at intensity 0 to 255 at intensity 4095, rounded half up, and never
falls as the intensity rises (R106). -/
def Clause.LawZeroIsAStraightLine : Prop :=
  ∀ i j : Nat, i ≤ j → j ≤ 4095 →
    linearValue i = (i * 255 + 2047) / 4095 ∧ linearValue 0 = 0 ∧ linearValue 4095 = 255 ∧
    linearValue i ≤ linearValue j ∧ linearValue j ≤ 255 ∧
    2 * (i * 255) ≤ 4095 * (2 * linearValue i + 1) ∧ 4095 * (2 * linearValue i) ≤ 2 * (i * 255) + 4095

/-- A CURVE law gives its points exactly at the multiples of 256, lies between the two points of its segment,
and is rounded half up in magnitude: turned upside down, a curve gives the mirror image (R107). -/
def Clause.CurveLawInterpolatesItsPoints : Prop :=
  ∀ (points : Table Byte 17) (i : Nat) (h : i ≤ 4095),
    let p := (points.get ⟨i / 256, by omega⟩).toNat
    let q := (points.get ⟨i / 256 + 1, by omega⟩).toNat
    (i % 256 = 0 → curveValue points i = p) ∧
    min p q ≤ curveValue points i ∧ curveValue points i ≤ max p q ∧
    (p ≤ q → curveValue points i = p + ((q - p) * (i % 256) + 128) / 256) ∧
    (q < p → curveValue points i + ((p - q) * (i % 256) + 128) / 256 = p) ∧
    curveValue (points.map fun x => 255 - x) i = 255 - curveValue points i

/-- Law 0 and the CURVE laws give their rounded values (R106, R107). -/
def Obligations.CurveLawsRoundHalfUp : Prop :=
  Clause.LawZeroIsAStraightLine ∧ Clause.CurveLawInterpolatesItsPoints

/-- Setting a move: the present level is the start and does not change, the pair is chosen by direction and
turned into microseconds, a record already at its target does not move, and the old move is gone (R23). -/
def Clause.SettingAMoveKeepsTheLevel : Prop :=
  ∀ (clock target : Nat) (up down : Pair) (r : FadeRecord),
    let x := r.setMove clock target up down
    x.level = r.level ∧ x.start = r.level ∧ x.target = target ∧ x.origin = clock ∧
    (x.moving = true ↔ target ≠ r.level) ∧
    (r.level < target → x.delay = up.delay * 100000 ∧ x.time = up.time * 100000) ∧
    (target < r.level → x.delay = down.delay * 100000 ∧ x.time = down.time * 100000) ∧
    (target = r.level → x.delay = 0 ∧ x.time = 0)

/-- The rows of R22: before the delay the start, at or after the end the target and no longer moving, and in
between a level that lies between start and target and is the rounded share of the way. -/
def Clause.EvaluationStaysBetweenStartAndTarget : Prop :=
  ∀ (c : Nat) (r : FadeRecord), r.moving = true → r.origin ≤ c →
    let x := r.evaluate c
    let e := c - r.origin
    (e < r.delay → x = { r with level := r.start }) ∧
    (r.delay ≤ e → (r.time = 0 ∨ r.time ≤ e - r.delay) →
      x = { r with level := r.target, moving := false }) ∧
    (r.delay ≤ e → e - r.delay < r.time →
      x = { r with level := x.level } ∧
      (r.start ≤ r.target →
        x.level = r.start + ((r.target - r.start) * (e - r.delay) + r.time / 2) / r.time) ∧
      (r.target ≤ r.start →
        x.level + ((r.start - r.target) * (e - r.delay) + r.time / 2) / r.time = r.start)) ∧
    min r.start r.target ≤ x.level ∧ x.level ≤ max r.start r.target

/-- A move is set from the present level and evaluated between its start and its target (R22, R23). -/
def Obligations.FadeRecordsMoveBetweenStartAndTarget : Prop :=
  Clause.SettingAMoveKeepsTheLevel ∧ Clause.EvaluationStaysBetweenStartAndTarget

/-- The scan work of a playback that takes no automatic GO: FADING and WAITING advance the clock by
P × 10 × R and evaluate every record there, complete with PLAYBACK DONE when the last record stops, and take
their state from R18; EMPTY, IDLE and PAUSED keep all they have (R20 to R22, R35). Past the limit of the
clock its value is free (assumption 1), so the statement stays below it. -/
def Obligations.ScanWorkAdvancesTheFade : Prop :=
  ∀ (lists : Table CueList 8) (length : Nat) (p : Fin 6) (pb : Playback), pb.Legal →
    let clock := pb.clock + length * 10 * pb.rate
    let x := pb.scanWork lists length p
    (pb.state ≠ .fading → pb.state ≠ .waiting → x = ({ pb with scanEvents := [] }, false)) ∧
    ((pb.state = .fading ∨ pb.state = .waiting) → clock < 2 ^ 64 → (∀ due ∈ pb.follow, clock < due) →
      let records := pb.records.map (FadeRecord.evaluate clock)
      let after := ({ pb with clock := clock }).settledWith records pb.current pb.follow
      x.2 = false ∧
      x.1 = { after with
        scanEvents := if pb.moving && !records.any (·.moving) then
          [⟨.playbackDone, numbered p, orZero pb.current⟩] else [] })

/-- A follow at or below the clock takes an automatic GO on the next cue, exactly as a GO does with this scan's
clock as origin, and its moves are evaluated in the same scan; the events, LINK MISSING first, are kept for
compute end (R21, R25, R26, R29, R35). -/
def Clause.FollowGoesToTheNextCue : Prop :=
  ∀ (lists : Table CueList 8) (length : Nat) (p : Fin 6) (pb : Playback) (l : Fin 8) (due : Nat) (c : Cue),
    pb.Legal → (pb.state = .fading ∨ pb.state = .waiting) → pb.loaded = some l →
    let clock := pb.clock + length * 10 * pb.rate
    clock < 2 ^ 64 → pb.follow = some due → due ≤ clock → nextCue (lists.get l) pb.current = some c →
    (c.entries.Pairwise fun a b => a.channel < b.channel) →
    (∀ f ∈ c.follow, clock + f * 100000 < 2 ^ 64) →
    ∃ moved : Table FadeRecord 768, c.MovesSet clock pb.records moved ∧
      let records := moved.map (FadeRecord.evaluate clock)
      let after := ({ pb with clock := clock }).settledWith records (some c.number)
        (c.follow.map fun f => clock + f * 100000)
      pb.scanWork lists length p =
        ({ after with
          scanEvents := missingEvents p (lists.get l) pb.current ++ goEvents p c.number records }, true)

/-- A follow at or below the clock that finds no next cue: LINK MISSING and PLAYBACK END arise, the follow is
gone, the moves go on and are evaluated, and PLAYBACK DONE arises when the last record stops; no GO is taken
(R21, R25, R27, R29, R35). -/
def Clause.FollowFindsTheEndOfTheList : Prop :=
  ∀ (lists : Table CueList 8) (length : Nat) (p : Fin 6) (pb : Playback) (l : Fin 8) (due : Nat),
    pb.Legal → (pb.state = .fading ∨ pb.state = .waiting) → pb.loaded = some l →
    let clock := pb.clock + length * 10 * pb.rate
    clock < 2 ^ 64 → pb.follow = some due → due ≤ clock → nextCue (lists.get l) pb.current = none →
    let records := pb.records.map (FadeRecord.evaluate clock)
    let after := ({ pb with clock := clock }).settledWith records pb.current none
    pb.scanWork lists length p =
      ({ after with
        scanEvents := missingEvents p (lists.get l) pb.current ++
          ⟨.playbackEnd, numbered p, orZero pb.current⟩ ::
            if pb.moving && !records.any (·.moving) then
              [⟨.playbackDone, numbered p, orZero pb.current⟩] else [] }, false)

/-- The automatic GO of a due follow, on the next cue and at the end of the list (R21, R29). -/
def Obligations.FollowTakesAnAutomaticGo : Prop :=
  Clause.FollowGoesToTheNextCue ∧ Clause.FollowFindsTheEndOfTheList

/-- Compute end: the phase is WAITING and the held-request list empty, the sets are posted to the four
transmitters, the dark test and the last completed scan record are made from the scan's values, the new-bank
mark is clear and no scan event is left to raise; each watch that is not OFF is MET or CLEAR by its condition
on this scan's output value, which is its last output (R77 to R83, R140). The held commands are of held
classes, and no command waits in a buffer, which compute end would have the processor take next. -/
def Clause.ComputeEndLeavesTheScanComplete : Prop :=
  ∀ s : State, s.level.phase = .computing →
    (∀ d c r, Held.command d c r ∈ s.level.held → r.isHeld s = true) →
    (∀ d, (s.desk d).port.buffer.waitingCommand = none) →
    let output := fun w => (s.level.work.circuits.get (s.triggers.watches.get w).circuit).output
    ∃ t : State, exec .computeEnd s = .next t ∧
      t.level.phase = .waiting ∧ t.level.held = [] ∧ t.level.newBank = none ∧
      (t.level.dark = true ↔ ∀ k, (s.level.work.circuits.get k).intensity = 0) ∧
      t.level.last = { s.level.work with dark := t.level.dark } ∧
      (∀ l, t.links.get l = ((s.links.get l).post (linkSet s.level.work.circuits l)).1) ∧
      (∀ p, (t.playbacks.get p).scanEvents = []) ∧
      (∀ w, t.triggers.watches.get w =
        let x := s.triggers.watches.get w
        if x.state = .off then x
        else { x with
          state := if (x.condition = .above ∧ x.threshold.toNat < output w) ∨
              (x.condition = .below ∧ output w < x.threshold.toNat) then .met else .clear
          lastOutput := some (output w) }) ∧
      t.level.activeBank = s.level.activeBank ∧ t.level.timer = s.level.timer ∧
      t.level.latch = s.level.latch ∧ t.level.work = s.level.work ∧ t.showClock = s.showClock ∧
      t.memory = s.memory ∧ t.pending = s.pending ∧
      ∀ d, (t.desk d).monitor = (s.desk d).monitor ∧ (t.desk d).receiver = (s.desk d).receiver

/-- The dark test makes a swap staged AT DARK due when every circuit intensity of the scan is 0, and changes no
other due mark and nothing else but the dark indication (R80); so a compute end that takes no held request and
meets no enabled route leaves the staged swap but for that mark. -/
def Clause.DarkMakesAnAtDarkSwapDue : Prop :=
  ∀ s : State,
    let tested := fun (dark : Bool) => s.level.staged.map fun x =>
      { x with due := x.due || (dark && decide (x.method = .atDark)) }
    (∃ dark : Bool, (dark = true ↔ ∀ k, (s.level.work.circuits.get k).intensity = 0) ∧
      darkTest s = { s with level := { s.level with dark := dark, staged := tested dark } }) ∧
    (s.level.phase = .computing → s.level.held = [] →
      (∀ d, (s.desk d).port.buffer.waitingCommand = none) →
      (∀ r, (s.triggers.routes.get r).enabled = false) →
      ∃ t : State, exec .computeEnd s = .next t ∧ t.level.staged = tested t.level.dark)

/-- Compute end, with the dark test and the watches (R77 to R83, R140). -/
def Obligations.ComputeEndCompletesTheScan : Prop :=
  Clause.ComputeEndLeavesTheScanComplete ∧ Clause.DarkMakesAnAtDarkSwapDue

/-- Compute end, in its order: the sets are posted, the held requests taken, the dark test made, SWAP DONE, the
scan events and the watches' events raised, the record written; then a waiting command is taken (R78, R82,
R151). -/
def Clause.ComputeEndGoesInOrder : Prop :=
  ∀ s : State, s.level.phase = .computing →
    let posted := postSets { s with level := { s.level with phase := .waiting } }
    exec .computeEnd s = .next (arbitrate (writeRecord (evaluateWatches (scanWorkEvents (swapDone
      (darkTest (takeHeldAll s.level.held posted)))))))

/-- The held requests are taken from the head, one after another; a held task as a task of its route taken at
once, and a held command exactly as its row would be taken at once: the same effect, events and reply, with
the processor IDLE after it (R77, R151, R156). -/
def Clause.HeldRequestsAreTakenOneByOne : Prop :=
  (∀ u : State, takeHeldAll [] u = u) ∧
  (∀ (h : Held) (rest : List Held) (u : State),
    takeHeldAll (h :: rest) u = takeHeldAll rest (takeHeld h (u.setHeld rest))) ∧
  (∀ (x : Fin 16) (task : Task) (u : State), takeHeld (.task x task) u = takeTask raiseEvent x task u) ∧
  ∀ (i : Instr) (d : Desk) (tag : Byte) (r : Request) (s : State),
    i.request = some (d, tag, r) → r ≠ .restart → TakenAtOnce d r s →
    exec i s = .next (takeHeld (.command d (r.command tag) r)
      { begun d tag r s with processor := ⟨.holding d, d⟩ }) ∧
    ∃ (x : Result) (data : List Byte) (u : State), exec i s = .next (answered d tag r x data u) ∧
      (x ≠ .done → x ≠ .started → data = [])

/-- The IDLE processor takes a waiting command: refused by the four checks it is answered at once, otherwise it
reaches its owner, or is held, or is a RESTART; then the other desk's waiting command follows while the
processor is IDLE (R151, R152, R156, R159). -/
def Clause.WaitingCommandsAreTakenInTurn : Prop :=
  ∀ u : State, (nextCommand u = none → arbitrate u = u) ∧
    ∀ (d : Desk) (c : Command), nextCommand u = some (d, c) →
      let v := begunAs d c u
      (∀ why, checkCommand d c v = .error why → arbitrate u = arbitrate (answeredAs d c why [] v)) ∧
      ∀ r, checkCommand d c v = .ok r →
        (r.isHeld v = true → u.level.phase = .computing → arbitrate u =
          { v with
            level := { v.level with held := v.level.held ++ [.command d c r] }
            processor := ⟨.holding d, d⟩ }) ∧
        (r = .restart → arbitrate u =
          { v.setPort d ⟨.answering c,
              (u.desk d).port.replies ++ [⟨.restart, c.tag, c.code, .done, replyFlags v, []⟩]⟩ with
            processor := ⟨.executing d, d⟩ }) ∧
        (r ≠ .restart → (r.isHeld v = false ∨ u.level.phase = .waiting) →
          let a := perform r v
          arbitrate u = arbitrate (answeredAs d c a.result
            (if a.result = .done ∨ a.result = .started then a.data else []) a.state))

/-- The held requests of a compute end are taken in turn, and after them a waiting command (R77, R78, R151,
R156). -/
def Obligations.HeldRequestsAreTakenInTurn : Prop :=
  Clause.ComputeEndGoesInOrder ∧ Clause.HeldRequestsAreTakenOneByOne ∧ Clause.WaitingCommandsAreTakenInTurn

/-- The events of compute end in their order: SET SKIPPED for each link whose pending set is replaced, SWAP
DONE, the scan events of Playback 1 to 6, then WATCH of Watch 1 to 8 for those that pass from CLEAR to MET.
Stated for a compute end that takes no held request and meets no enabled route or waiting command (R82, R126,
R140). The order of SET SKIPPED among the links is a free value (assumption 2). -/
def Obligations.ScanEventsComeInOrder : Prop :=
  ∀ s : State, s.level.phase = .computing → s.level.held = [] →
    (∀ d, (s.desk d).port.buffer.waitingCommand = none) →
    (∀ r, (s.triggers.routes.get r).enabled = false) →
    let swap := match s.level.newBank with
      | some before => [Event.mk .swapDone (numbered s.level.activeBank) (numbered before)]
      | none => []
    let output := fun w => (s.level.work.circuits.get (s.triggers.watches.get w).circuit).output
    let watches := (List.finRange 8).filterMap fun w =>
      if (s.triggers.watches.get w).state = .clear ∧ (s.triggers.watches.get w).met (output w) = true then
        some (Event.mk .watch (numbered w) (output w)) else none
    ∃ order : List (Fin 4), order.Perm ((List.finRange 4).filter fun l => (s.links.get l).skips) ∧
      let skipped := order.map fun l => Event.mk .setSkipped (numbered l) 0
      let events := skipped ++ swap ++ s.playbacks.rows.flatMap (·.scanEvents) ++ watches
      ∃ t : State, exec .computeEnd s = .next t ∧
        t.reports = events.foldl (fun r e => r.take e s.showClock) s.reports

/-- Each transmitter is posted the 384 output values of its own link's circuits, in circuit order (R79). -/
def Clause.EachLinkGetsItsOwnCircuits : Prop :=
  ∀ (circuits : Table CircuitResult 1536) (l : Fin 4) (i : Fin 384),
    (linkSet circuits l).get i = (circuits.get ⟨384 * l.val + i.val, by omega⟩).output

/-! ### Rack links -/

/-- A posted set is discarded by a disabled transmitter or under an empty mask, taken by an IDLE one with the
racks of its mask (RackLinksSendTheirCycles says which these are) as its cycle, and held
as the pending set by a SENDING one, which is skipped when a pending set stood there; the frame in flight does
not change (R124, R126). -/
def Clause.PostIsTakenHeldOrDiscarded : Prop :=
  ∀ (x : LinkSet) (t : Transmitter),
    ((t.enabled = false ∨ t.mask = 0) → t.post x = (t, false)) ∧
    (t.enabled = true → t.mask ≠ 0 →
      (t.state = .idle → ∃ a rest, maskRacks t.mask = a :: rest ∧
        t.post x = ({ t with
          state := .sending a, current := some x, cycle := a :: rest, last := some x, refresh := none },
          false)) ∧
      (∀ a, t.state = .sending a →
        t.post x = ({ t with queued := some x }, t.queued.isSome) ∧ (t.post x).1.frame = t.frame))

/-- The four posts of one step: each transmitter takes its own, and SET SKIPPED is reported, and not routed,
for each that discards a pending set. The order among the links is a free value, drawn with the counter
`choices` when there are two or more (R79, R124, R126, assumption 2). -/
def Clause.SkippedSetsAreReported : Prop :=
  ∀ s : State, ∃ (links : Table Transmitter 4) (order : List (Fin 4)),
    (∀ l, links.get l = ((s.links.get l).post (linkSet s.level.work.circuits l)).1) ∧
    order.Perm ((List.finRange 4).filter fun l => (s.links.get l).skips) ∧
    postSets s = order.foldl (fun u l => u.report ⟨.setSkipped, numbered l, 0⟩)
      { s with links := links, choices := s.choices + if 2 ≤ order.length then 1 else 0 }

/-- Each transmitter is posted its own circuits, and takes, holds or discards the post, with SET SKIPPED for a
pending set discarded (R79, R124, R126). -/
def Obligations.OutputSetIsPostedToTheLinks : Prop :=
  Clause.EachLinkGetsItsOwnCircuits ∧ Clause.PostIsTakenHeldOrDiscarded ∧ Clause.SkippedSetsAreReported

/-- The cycle rack list that a mask gives: the addresses a whose bit a is set, in ascending order (R123,
R178). -/
def Clause.MaskNamesItsRacks : Prop :=
  ∀ m : BitVec 4, (∀ a : Fin 4, a ∈ maskRacks m ↔ m.getLsbD a.val = true) ∧
    (maskRacks m).Pairwise fun a b => a < b

/-- The end of the frame in flight: the next rack of the cycle; at cycle end the pending set with the mask as
it now stands, or IDLE with the refresh timer at 0; on a disabled link IDLE with every set discarded (R123,
R125, R129). While IDLE it changes nothing (assumption 8). -/
def Clause.RackFrameEndGoesOnOrEndsTheCycle : Prop :=
  ∀ (l : Fin 4) (s : State),
    let t := s.links.get l
    let idle := { t with state := .idle, current := none, cycle := [], queued := none }
    (t.state = .idle → exec (.rackFrameEnd l) s = .next s) ∧
    ∀ a, t.state = .sending a → t.cycle.Pairwise (fun x y => x < y) →
      (t.enabled = false → exec (.rackFrameEnd l) s =
        .next (s.setLink l { idle with last := none, refresh := none })) ∧
      (t.enabled = true →
        (∀ b ∈ t.cycle, a < b → (∀ x ∈ t.cycle, a < x → b ≤ x) →
          exec (.rackFrameEnd l) s = .next (s.setLink l { t with state := .sending b })) ∧
        ((∀ x ∈ t.cycle, x ≤ a) →
          (t.queued = none →
            exec (.rackFrameEnd l) s = .next (s.setLink l { idle with refresh := some 0 })) ∧
          (∀ x, t.queued = some x →
            (t.mask = 0 → exec (.rackFrameEnd l) s =
              .next (s.setLink l { idle with last := some x, refresh := some 0 })) ∧
            (t.mask ≠ 0 → ∃ b rest, maskRacks t.mask = b :: rest ∧
              exec (.rackFrameEnd l) s = .next (s.setLink l
                { t with
                  state := .sending b, current := some x, cycle := b :: rest, queued := none,
                  last := some x, refresh := none })))))

/-- REFRESH at 100 ms of an IDLE enabled transmitter sends its last set again with the mask as it stands, or
starts the timer again under an empty mask; before 100 ms, while SENDING or with the timer stopped it changes
nothing (R127). That last case is assumption 8. -/
def Clause.RefreshSendsTheLastSetAgain : Prop :=
  ∀ (l : Fin 4) (s : State),
    let t := s.links.get l
    (∀ ms x, t.state = .idle → t.enabled = true → t.refresh = some ms → t.last = some x → 100 ≤ ms →
      (t.mask = 0 → exec (.refresh l) s = .next (s.setLink l { t with refresh := some 0 })) ∧
      (t.mask ≠ 0 → ∃ a rest, maskRacks t.mask = a :: rest ∧
        exec (.refresh l) s = .next (s.setLink l
          { t with state := .sending a, current := some x, cycle := a :: rest, refresh := none }))) ∧
    ((t.state ≠ .idle ∨ t.enabled = false ∨ t.refresh = none ∨ ∃ ms, t.refresh = some ms ∧ ms < 100) →
      exec (.refresh l) s = .next s)

/-- The racks of a cycle, the end of a rack frame and the refresh of an idle link (R123, R125, R127, R129). -/
def Obligations.RackLinksSendTheirCycles : Prop :=
  Clause.MaskNamesItsRacks ∧ Clause.RackFrameEndGoesOnOrEndsTheCycle ∧ Clause.RefreshSendsTheLastSetAgain

/-- The frame in flight of a SENDING transmitter: 98 characters with good stop bits, the header marked with
kind 2 and the rack address, then unmarked the 96 output values of that rack in slot order from the current
set and their sum modulo 256; an IDLE line carries none (R122, R174 to R177). -/
def Clause.RackFrameCarriesItsRack : Prop :=
  ∀ t : Transmitter, (t.state = .idle → t.frame = none) ∧
    ∀ (a : Fin 4) (x : LinkSet), t.state = .sending a → t.current = some x →
      let value := fun slot : Fin 96 => x.get ⟨a.val * 96 + slot.val, by omega⟩
      ∃ frame : List Character, t.frame = some frame ∧ frame.length = 98 ∧
        frame[0]? = some ⟨BitVec.ofNat 8 (2 * 16 + a.val), true, true⟩ ∧
        (∀ slot : Fin 96, frame[slot.val + 1]? = some ⟨BitVec.ofNat 8 (value slot), false, true⟩) ∧
        frame[97]? = some ⟨BitVec.ofNat 8 ((List.finRange 96).map value).sum, false, true⟩

/-- A REPLY frame: 9 characters and its data, with good stop bits, the header marked with kind 8 and address
0, then unmarked the tag, the request code, the outcome by its code, the flags, the data length, the data and
the sum of these modulo 65,536, two-byte fields high byte first (R175 to R177, R180). -/
def Clause.ReplyFrameCarriesItsReply : Prop :=
  ∀ r : Reply, r.data.length < 65536 →
    let high := fun n : Nat => BitVec.ofNat 8 (n / 256)
    let low := fun n : Nat => BitVec.ofNat 8 n
    let outcome : Byte := match r.result with
      | .done => 0
      | .started => 1
      | .busy => 2
      | .notPermitted => 3
      | .badRequest => 4
      | .outOfRange => 5
      | .noSuch => 6
      | .full => 7
      | .wrongState => 8
      | .endOfList => 9
    let body := [r.tag, r.code, outcome, r.flags, high r.data.length, low r.data.length] ++ r.data
    let check := (body.map (·.toNat)).sum
    replyFrame r = ⟨0x80, true, true⟩ ::
      (body ++ [high check, low check]).map (fun b => ⟨b, false, true⟩) ∧
    (replyFrame r).length = 9 + r.data.length

/-- The flags of a reply made now: REPORTS WAITING while the report queue holds one, OVERRUN, MEMORY INVALID
while the show memory is not VALID, and STORING, in bits 0 to 3; the other bits are 0 (R169, R176). -/
def Clause.ReplyFlagsShowTheirStates : Prop :=
  ∀ s : State,
    let bit := fun i => (replyFlags s).getLsbD i
    (bit 0 = true ↔ s.reports.queue ≠ []) ∧ bit 1 = s.reports.overrun ∧
    (bit 2 = true ↔ ∀ i, s.memory ≠ .valid i) ∧
    (bit 3 = true ↔ ∃ i since, s.memory = .storing i since) ∧ ∀ i, 4 ≤ i → bit i = false

/-- A character on a line is eleven bits: the start bit 0, the data byte from its least significant bit, the
mark bit and the stop bit (R46, R174). -/
def Clause.CharactersAreElevenBits : Prop :=
  ∀ x : Character, x.bits.length = 11 ∧ x.bits[0]? = some false ∧
    (∀ i : Fin 8, x.bits[i.val + 1]? = some (x.data.getLsbD i.val)) ∧
    x.bits[9]? = some x.mark ∧ x.bits[10]? = some x.stopGood

/-- The frames that the part sends, on the rack links and on the return lines (R122, R169, R174 to R177). -/
def Obligations.SentFramesCarryTheirFields : Prop :=
  Clause.RackFrameCarriesItsRack ∧ Clause.ReplyFrameCarriesItsReply ∧ Clause.ReplyFlagsShowTheirStates ∧
    Clause.CharactersAreElevenBits

/-- SET LINK takes both settings at once; a mask with a bit above 3 or an enabled field that is neither 0 nor
1 is refused OUT OF RANGE. Disabling an IDLE link discards its last set and stops its refresh timer; a SENDING
link keeps its sets, its cycle and its frame (R128 to R130, R178). The bytes of an IDLE state are assumption
13; that the reply's items are those of the transmitter as the request leaves it is assumption 25. -/
def Obligations.SetLinkTakesBothSettings : Prop :=
  ∀ (d : Desk) (tag link enabled mask : Byte) (l : Fin 4) (s : State),
    let r : Request := .setLink link enabled mask
    TakenAtOnce d r s → number 4 link.toNat = some l →
    let t := s.links.get l
    let s0 := begun d tag r s
    let i := Instr.setLink d tag link enabled mask
    ((2 ≤ enabled.toNat ∨ 16 ≤ mask.toNat) → exec i s = .next (answered d tag r .outOfRange [] s0)) ∧
    (enabled.toNat ≤ 1 → mask.toNat < 16 →
      let taken := { t with enabled := decide (enabled = 1), mask := mask.setWidth 4 }
      let after := if t.state = .idle ∧ t.enabled = true ∧ enabled = 0 then
          { taken with current := none, cycle := [], queued := none, last := none, refresh := none }
        else taken
      exec i s = .next (answered d tag r .done
        ([enabled, mask] ++ (match t.state with
            | .idle => [0, 0]
            | .sending a => [1, BitVec.ofNat 8 a.val]) ++
          bYes after.queued.isSome ++ bYes after.last.isSome)
        (s0.setLink l after)))

/-! ### Playbacks -/

/-- The next cue of a list in ascending number: the first cue with no current cue; the cue that the current
cue's link names, when it is present; otherwise the cue with the lowest number above the current one. A
link is missing exactly when the current cue is in the list and its link names a cue that is not (R11, R25). -/
def Obligations.NextCueFollowsTheLink : Prop :=
  ∀ (l : CueList), (l.Pairwise fun a b => a.number < b.number) →
    (∀ c, nextCue l none = some c ↔ c ∈ l ∧ ∀ x ∈ l, c.number ≤ x.number) ∧
    (∀ n c k, c ∈ l → c.number = n → c.link = some k →
      ∀ x ∈ l, x.number = k → nextCue l (some n) = some x) ∧
    (∀ current k, missingLink l current = some k ↔
      ∃ c ∈ l, current = some c.number ∧ c.link = some k ∧ ∀ x ∈ l, x.number ≠ k) ∧
    (∀ n, (∀ c ∈ l, c.number = n → ∀ k ∈ c.link, ∀ x ∈ l, x.number ≠ k) →
      ∀ x, nextCue l (some n) = some x ↔
        x ∈ l ∧ n < x.number ∧ ∀ y ∈ l, n < y.number → x.number ≤ y.number)

/-- GO with a next cue: the entries' moves are set on the records and no other record changes, the cue becomes
current, its follow is set from the clock, the state comes from R18, an AT GO swap of this playback is due,
and LINK MISSING, PLAYBACK GO and PLAYBACK DONE are raised in that order; a PAUSED playback is resumed (R26,
R28, R34, R35, R69). The answer carries the playback as it stands then (R24). That the change is whole before
the first event is assumption 5. -/
def Clause.GoTakesTheNextCue : Prop :=
  ∀ (d : Desk) (tag p : Byte) (k : Fin 6) (l : Fin 8) (c : Cue) (s : State),
    TakenAtOnce d (.go p) s → number 6 p.toNat = some k →
    let pb := s.playbacks.get k
    pb.Legal → pb.loaded = some l → nextCue (s.lists.get l) pb.current = some c →
    (c.entries.Pairwise fun a b => a.channel < b.channel) →
    (∀ f ∈ c.follow, pb.clock + f * 100000 < 2 ^ 64) →
    ∃ records : Table FadeRecord 768,
      (∀ e ∈ c.entries, records.get e.channel = (pb.records.get e.channel).setMove pb.clock (expand e.level)
        ⟨c.upDelay, c.upTime⟩ ⟨c.downDelay, c.downTime⟩) ∧
      (∀ ch, (∀ e ∈ c.entries, e.channel ≠ ch) → records.get ch = pb.records.get ch) ∧
      let after := pb.settledWith records (some c.number) (c.follow.map fun f => pb.clock + f * 100000)
      let missing := match missingLink (s.lists.get l) pb.current with
        | some n => [Event.mk .linkMissing (numbered k) n]
        | none => []
      let u := raiseAll raiseEvent (missing ++ goEvents k c.number records)
        (((begun d tag (.go p) s).setPlayback k after).goTaken k)
      exec (.go d tag p) s =
        .next (answered d tag (.go p) .done (playbackData (u.playbacks.get k)) u)

/-- GO that finds no next cue: END OF LIST, with PLAYBACK END raised after a LINK MISSING, the follow gone, and
the cue, the list, the records and a staged swap as they stand; GO on an EMPTY playback is refused WRONG STATE
(R25, R27, R28). -/
def Clause.GoAtTheEndOfTheList : Prop :=
  ∀ (d : Desk) (tag p : Byte) (k : Fin 6) (s : State),
    TakenAtOnce d (.go p) s → number 6 p.toNat = some k →
    let pb := s.playbacks.get k
    let s0 := begun d tag (.go p) s
    pb.Legal →
    (pb.state = .empty → exec (.go d tag p) s = .next (answered d tag (.go p) .wrongState [] s0)) ∧
    ∀ l, pb.loaded = some l → nextCue (s.lists.get l) pb.current = none →
      let missing := match missingLink (s.lists.get l) pb.current with
        | some n => [Event.mk .linkMissing (numbered k) n]
        | none => []
      let u := raiseAll raiseEvent (missing ++ [⟨.playbackEnd, numbered k, orZero pb.current⟩])
        (s0.setPlayback k (pb.settledWith pb.records pb.current none))
      exec (.go d tag p) s = .next (answered d tag (.go p) .endOfList [] u)

/-- GO with and without a next cue (R25 to R28). -/
def Obligations.GoTakesACueOrEndsTheList : Prop :=
  Clause.GoTakesTheNextCue ∧ Clause.GoAtTheEndOfTheList

/-- GOTO: WRONG STATE on an EMPTY playback, OUT OF RANGE, then NO SUCH for a cue not in the list; otherwise
every channel gets a move to the cue's expanded tracked level, with the cue's pairs or the override, and the
cue's follow is set (R12, R30, R178). That the change is whole before the first event is assumption 5. -/
def Clause.GotoMovesEveryChannel : Prop :=
  ∀ (d : Desk) (tag p : Byte) (cue override : Half) (k : Fin 6) (s : State),
    let r : Request := .goto p cue override
    TakenAtOnce d r s → number 6 p.toNat = some k →
    let pb := s.playbacks.get k
    let s0 := begun d tag r s
    let i := Instr.goto d tag p cue override
    let inRange := 1 ≤ cue.toNat ∧ cue.toNat ≤ 9999 ∧ (override.toNat = 65535 ∨ override.toNat ≤ 6000)
    pb.Legal →
    (pb.state = .empty → exec i s = .next (answered d tag r .wrongState [] s0)) ∧
    ∀ l, pb.loaded = some l →
      (¬inRange → exec i s = .next (answered d tag r .outOfRange [] s0)) ∧
      (inRange → (∀ c ∈ s.lists.get l, c.number ≠ cue.toNat) →
        exec i s = .next (answered d tag r .noSuch [] s0)) ∧
      ∀ c, inRange → (s.lists.get l).at cue.toNat = some c →
        (∀ f ∈ c.follow, pb.clock + f * 100000 < 2 ^ 64) →
        let pair := fun delay time => if override.toNat = 65535 then Pair.mk delay time
          else ⟨0, override.toNat⟩
        ∃ records : Table FadeRecord 768,
          (∀ ch, records.get ch = (pb.records.get ch).setMove pb.clock
            (expand ((s.lists.get l).tracked cue.toNat ch)) (pair c.upDelay c.upTime)
            (pair c.downDelay c.downTime)) ∧
          let after := pb.settledWith records (some cue.toNat)
            (c.follow.map fun f => pb.clock + f * 100000)
          let u := raiseAll raiseEvent (goEvents k cue.toNat records) ((s0.setPlayback k after).goTaken k)
          exec i s = .next (answered d tag r .done (playbackData (u.playbacks.get k)) u)

/-- BACK: WRONG STATE on an EMPTY playback, END OF LIST with no current cue; otherwise every channel moves
over the back time to the tracked state of the cue below the current number, or to 0 with no current cue when
none is below (R31). That the change is whole before the first event is assumption 5. -/
def Clause.BackTakesTheCueBelow : Prop :=
  ∀ (d : Desk) (tag p : Byte) (k : Fin 6) (s : State),
    TakenAtOnce d (.back p) s → number 6 p.toNat = some k →
    let pb := s.playbacks.get k
    let s0 := begun d tag (.back p) s
    let i := Instr.back d tag p
    let move := fun (target : Fin 768 → Nat) (records : Table FadeRecord 768) =>
      ∀ ch, records.get ch =
        (pb.records.get ch).setMove pb.clock (target ch) ⟨0, pb.backTime⟩ ⟨0, pb.backTime⟩
    let taken := fun (after : Playback) (cue : Nat) =>
      let u := raiseAll raiseEvent (goEvents k cue after.records) ((s0.setPlayback k after).goTaken k)
      exec i s = .next (answered d tag (.back p) .done (playbackData (u.playbacks.get k)) u)
    pb.Legal →
    (pb.state = .empty → exec i s = .next (answered d tag (.back p) .wrongState [] s0)) ∧
    (pb.state ≠ .empty → pb.current = none →
      exec i s = .next (answered d tag (.back p) .endOfList [] s0)) ∧
    ∀ l n, pb.loaded = some l → pb.current = some n →
      (∀ c, (s.lists.get l).below n = some c →
        (∀ f ∈ c.follow, pb.clock + f * 100000 < 2 ^ 64) →
        ∃ records, move (fun ch => expand ((s.lists.get l).tracked c.number ch)) records ∧
          taken (pb.settledWith records (some c.number) (c.follow.map fun f => pb.clock + f * 100000))
            c.number) ∧
      ((s.lists.get l).below n = none →
        ∃ records, move (fun _ => 0) records ∧ taken (pb.settledWith records none none) 0)

/-- GOTO and BACK set a move on every channel (R30, R31). -/
def Obligations.GotoAndBackMoveEveryChannel : Prop :=
  Clause.GotoMovesEveryChannel ∧ Clause.BackTakesTheCueBelow

/-- RELEASE moves every channel to 0 over the release time, with no current cue and no follow, and raises no
event; on an EMPTY playback it is answered DONE and changes nothing (R32). -/
def Clause.ReleaseFadesToZero : Prop :=
  ∀ (d : Desk) (tag p : Byte) (k : Fin 6) (s : State),
    TakenAtOnce d (.release p) s → number 6 p.toNat = some k →
    let pb := s.playbacks.get k
    let s0 := begun d tag (.release p) s
    pb.Legal →
    (pb.state = .empty → exec (.release d tag p) s =
      .next (answered d tag (.release p) .done (playbackData pb) s0)) ∧
    (pb.state ≠ .empty → ∃ records : Table FadeRecord 768,
      (∀ ch, records.get ch = (pb.records.get ch).setMove pb.clock 0 ⟨0, pb.releaseTime⟩
        ⟨0, pb.releaseTime⟩) ∧
      let after := pb.settledWith records none none
      exec (.release d tag p) s =
        .next (answered d tag (.release p) .done (playbackData after) (s0.setPlayback k after)))

/-- PAUSE stops a FADING or WAITING playback where it stands, RESUME sets a PAUSED one FADING or WAITING, and
each is refused WRONG STATE in any other state (R33, R34). -/
def Clause.PauseAndResumeKeepTheFade : Prop :=
  ∀ (d : Desk) (tag p : Byte) (k : Fin 6) (s : State), number 6 p.toNat = some k →
    let pb := s.playbacks.get k
    pb.Legal →
    (TakenAtOnce d (.pause p) s →
      let s0 := begun d tag (.pause p) s
      ((pb.state = .fading ∨ pb.state = .waiting) →
        let after := { pb with state := .paused }
        exec (.pause d tag p) s =
          .next (answered d tag (.pause p) .done (playbackData after) (s0.setPlayback k after))) ∧
      (pb.state ≠ .fading → pb.state ≠ .waiting →
        exec (.pause d tag p) s = .next (answered d tag (.pause p) .wrongState [] s0))) ∧
    (TakenAtOnce d (.resume p) s →
      let s0 := begun d tag (.resume p) s
      (pb.state = .paused →
        let after := { pb with state := if pb.moving then .fading else .waiting }
        exec (.resume d tag p) s =
          .next (answered d tag (.resume p) .done (playbackData after) (s0.setPlayback k after))) ∧
      (pb.state ≠ .paused →
        exec (.resume d tag p) s = .next (answered d tag (.resume p) .wrongState [] s0)))

/-- RELEASE, PAUSE and RESUME (R32 to R34). -/
def Obligations.ReleasePauseAndResumeActOnTheFade : Prop :=
  Clause.ReleaseFadesToZero ∧ Clause.PauseAndResumeKeepTheFade

/-- LOAD LIST and UNLOAD are taken in EMPTY and IDLE and refused WRONG STATE otherwise: the one loads the list
with no current cue and keeps every level, the other clears every record and leaves the playback EMPTY; the
master, rate and times stay. LOAD LIST of a list outside 1 to 8 is refused NO SUCH in every state (R37,
R38). -/
def Clause.LoadAndUnloadAList : Prop :=
  ∀ (d : Desk) (tag p list : Byte) (k : Fin 6) (l : Fin 8) (s : State), number 6 p.toNat = some k →
    let pb := s.playbacks.get k
    let atRest := pb.state = .empty ∨ pb.state = .idle
    pb.Legal →
    (TakenAtOnce d (.loadList p list) s → number 8 list.toNat = some l →
      let r : Request := .loadList p list
      let s0 := begun d tag r s
      (atRest →
        let after := { pb with loaded := some l, current := none, state := .idle, clock := 0 }
        exec (.loadList d tag p list) s =
          .next (answered d tag r .done (playbackData after) (s0.setPlayback k after))) ∧
      (¬atRest → exec (.loadList d tag p list) s = .next (answered d tag r .wrongState [] s0))) ∧
    (TakenAtOnce d (.loadList p list) s → (list.toNat = 0 ∨ 8 < list.toNat) →
      exec (.loadList d tag p list) s = .next
        (answered d tag (.loadList p list) .noSuch [] (begun d tag (.loadList p list) s))) ∧
    (TakenAtOnce d (.unload p) s →
      let s0 := begun d tag (.unload p) s
      (pb.state = .empty → exec (.unload d tag p) s =
        .next (answered d tag (.unload p) .done (playbackData pb) s0)) ∧
      (pb.state = .idle →
        let after := { pb with
          records := Table.fill 768 .cleared, loaded := none, current := none, follow := none, clock := 0,
          state := .empty }
        exec (.unload d tag p) s =
          .next (answered d tag (.unload p) .done (playbackData after) (s0.setPlayback k after))) ∧
      (¬atRest → exec (.unload d tag p) s =
        .next (answered d tag (.unload p) .wrongState [] s0)))

/-- SET MASTER, SET RATE (clamped to 25 to 400) and SET PLAYBACK TIMES (OUT OF RANGE above 6000) are taken in
every state and change their settings alone (R39 to R41). That the rate stands after the items of R24 in its
reply is assumption 13. -/
def Clause.PlaybackSettingsChangeAlone : Prop :=
  ∀ (d : Desk) (tag p : Byte) (k : Fin 6) (s : State), number 6 p.toNat = some k →
    let pb := s.playbacks.get k
    (∀ master, TakenAtOnce d (.setMaster p master) s →
      exec (.setMaster d tag p master) s =
        .next (answered d tag (.setMaster p master) .done (playbackData pb)
          ((begun d tag (.setMaster p master) s).setPlayback k { pb with master := master }))) ∧
    (∀ rate, TakenAtOnce d (.setRate p rate) s →
      let taken := if rate.toNat < 25 then 25 else if 400 < rate.toNat then 400 else rate.toNat
      exec (.setRate d tag p rate) s =
        .next (answered d tag (.setRate p rate) .done (playbackData pb ++ b2 taken)
          ((begun d tag (.setRate p rate) s).setPlayback k { pb with rate := taken }))) ∧
    (∀ x y, TakenAtOnce d (.setPlaybackTimes p x y) s →
      let r : Request := .setPlaybackTimes p x y
      let s0 := begun d tag r s
      (x.toNat ≤ 6000 ∧ y.toNat ≤ 6000 → exec (.setPlaybackTimes d tag p x y) s =
        .next (answered d tag r .done (playbackData pb)
          (s0.setPlayback k { pb with releaseTime := x.toNat, backTime := y.toNat }))) ∧
      (6000 < x.toNat ∨ 6000 < y.toNat → exec (.setPlaybackTimes d tag p x y) s =
        .next (answered d tag r .outOfRange [] s0)))

/-- LOAD LIST, UNLOAD, SET MASTER, SET RATE and SET PLAYBACK TIMES (R37 to R41). -/
def Obligations.PlaybackListsAndSettingsAreTaken : Prop :=
  Clause.LoadAndUnloadAList ∧ Clause.PlaybackSettingsChangeAlone

/-! ### The cue store -/

/-- The lookups of R11 on a list in ascending number, and the tracked state of R12: the level in the last cue
at or below the number that includes the channel, 0 when none does. -/
def Clause.CueLookupsFindTheirCue : Prop :=
  ∀ (l : CueList) (n : Nat), (l.Pairwise fun a b => a.number < b.number) →
    (∀ c, l.at n = some c ↔ c ∈ l ∧ c.number = n) ∧
    (∀ c, l.first = some c ↔ c ∈ l ∧ ∀ x ∈ l, c.number ≤ x.number) ∧
    (∀ c, l.above n = some c ↔ c ∈ l ∧ n < c.number ∧ ∀ x ∈ l, n < x.number → c.number ≤ x.number) ∧
    (∀ c, l.below n = some c ↔ c ∈ l ∧ c.number < n ∧ ∀ x ∈ l, x.number < n → x.number ≤ c.number) ∧
    (∀ ch c v, c ∈ l → c.number ≤ n → c.levelOf ch = some v →
      (∀ x ∈ l, c.number < x.number → x.number ≤ n → x.levelOf ch = none) → l.tracked n ch = v) ∧
    (∀ ch, (∀ x ∈ l, x.number ≤ n → x.levelOf ch = none) → l.tracked n ch = 0)

/-- The level a cue gives to a channel is the cue level of its entry for that channel, as the entry carries it,
and there is none when no entry includes the channel (R2, R12). -/
def Clause.EntriesGiveTheirLevels : Prop :=
  ∀ (c : Cue), (c.entries.Pairwise fun a b => a.channel < b.channel) →
    ∀ ch v, c.levelOf ch = some v ↔ ∃ e ∈ c.entries, e.channel = ch ∧ e.level = v

/-- A cue written into a list in ascending number keeps the order, is found at its number in place of any cue
of that number, and leaves every other cue as it was (R1, R8); a cue removed is found no more and leaves the
others (R9). -/
def Clause.EditingAListKeepsItsOrder : Prop :=
  ∀ (l : CueList) (c : Cue), (l.Pairwise fun a b => a.number < b.number) →
    ((l.put c).Pairwise fun a b => a.number < b.number) ∧ (l.put c).at c.number = some c ∧
    (∀ n, n ≠ c.number → (l.put c).at n = l.at n) ∧
    (l.put c).length = l.length + (if (l.at c.number).isSome then 0 else 1) ∧
    ((l.remove c.number).Pairwise fun a b => a.number < b.number) ∧
    (l.remove c.number).at c.number = none ∧
    (∀ n, n ≠ c.number → (l.remove c.number).at n = l.at n)

/-- The lookups, the tracked state and the edits of a cue list (R1, R8, R9, R11, R12). -/
def Obligations.CueListsAreSearchedAndEditedInOrder : Prop :=
  Clause.CueLookupsFindTheirCue ∧ Clause.EntriesGiveTheirLevels ∧ Clause.EditingAListKeepsItsOrder

/-- WRITE CUE that passes the five checks of R7 puts the cue it carries, field by field, into its list, and its
DONE reply carries INSERTED or REPLACED, the list's cues and the two totals (R8, R178). -/
def Clause.WriteCueWritesTheCueItCarries : Prop :=
  ∀ (d : Desk) (tag list : Byte) (cue up down upDelay downDelay follow link count : Half)
    (entries : List (Half × Byte)) (k : Fin 8) (s : State),
    let r : Request := .writeCue list cue up down upDelay downDelay follow link count (entryBytes entries)
    TakenAtOnce d r s → number 8 list.toNat = some k → count.toNat = entries.length →
    (entries.Pairwise fun a b => a.1.toNat < b.1.toNat) →
    (1 ≤ cue.toNat ∧ cue.toNat ≤ 9999) →
    (up.toNat ≤ 6000 ∧ down.toNat ≤ 6000 ∧ upDelay.toNat ≤ 6000 ∧ downDelay.toNat ≤ 6000) →
    (follow.toNat = 65535 ∨ follow.toNat ≤ 6000) → link.toNat ≤ 9999 →
    (∀ e ∈ entries, 1 ≤ e.1.toNat ∧ e.1.toNat ≤ 768) →
    let old := (s.lists.get k).at cue.toNat
    cueCount s.lists + (if old.isSome then 0 else 1) ≤ 1000 →
    entryCount s.lists + entries.length ≤ 32768 + (match old with
      | some c => c.entries.length
      | none => 0) →
    ∃ new : Cue,
      new.number = cue.toNat ∧ new.upTime = up.toNat ∧ new.downTime = down.toNat ∧
      new.upDelay = upDelay.toNat ∧ new.downDelay = downDelay.toNat ∧
      new.follow = (if follow.toNat = 65535 then none else some follow.toNat) ∧
      new.link = (if link.toNat = 0 then none else some link.toNat) ∧
      new.entries.map (fun e => (numbered e.channel, e.level)) =
        entries.map (fun e => (e.1.toNat, e.2)) ∧
      let u := (begun d tag r s).setList k ((s.lists.get k).put new)
      exec (.writeCue d tag list cue up down upDelay downDelay follow link count entries) s =
        .next (answered d tag r .done
          ([if old.isSome then 1 else 0] ++ b2 ((s.lists.get k).put new).length ++
            b2 (cueCount u.lists) ++ b2 (entryCount u.lists)) u)

/-- The checks 2 to 5 of R7 refuse in their order, and a refused WRITE CUE changes nothing in the store. -/
def Clause.WriteCueChecksInOrder : Prop :=
  ∀ (d : Desk) (tag list : Byte) (cue up down upDelay downDelay follow link count : Half)
    (entries : List (Half × Byte)) (k : Fin 8) (s : State),
    let r : Request := .writeCue list cue up down upDelay downDelay follow link count (entryBytes entries)
    let i := Instr.writeCue d tag list cue up down upDelay downDelay follow link count entries
    TakenAtOnce d r s → number 8 list.toNat = some k →
    let refused := fun x => Host.Outcome.next (answered d tag r x [] (begun d tag r s))
    let sorted := entries.Pairwise fun a b => a.1.toNat < b.1.toNat
    let inRange := 1 ≤ cue.toNat ∧ cue.toNat ≤ 9999 ∧ up.toNat ≤ 6000 ∧ down.toNat ≤ 6000 ∧
      upDelay.toNat ≤ 6000 ∧ downDelay.toNat ≤ 6000 ∧
      (follow.toNat = 65535 ∨ follow.toNat ≤ 6000) ∧ link.toNat ≤ 9999 ∧
      ∀ e ∈ entries, 1 ≤ e.1.toNat ∧ e.1.toNat ≤ 768
    let old := (s.lists.get k).at cue.toNat
    (count.toNat ≠ entries.length → exec i s = refused .badRequest) ∧
    (count.toNat = entries.length → ¬sorted → exec i s = refused .badRequest) ∧
    (count.toNat = entries.length → sorted → ¬inRange → exec i s = refused .outOfRange) ∧
    (count.toNat = entries.length → sorted → inRange →
      (1000 < cueCount s.lists + (if old.isSome then 0 else 1) ∨
        32768 + (match old with
          | some c => c.entries.length
          | none => 0) < entryCount s.lists + entries.length) →
      exec i s = refused .full)

/-- DELETE CUE removes the cue of its number, OUT OF RANGE for a number outside 1 to 9999 and NO SUCH for one
not in the list; CLEAR LIST empties its list; the replies carry the counts (R9, R10). -/
def Clause.DeleteAndClearRemoveCues : Prop :=
  ∀ (d : Desk) (tag list : Byte) (k : Fin 8) (s : State), number 8 list.toNat = some k →
    (∀ cue, TakenAtOnce d (.deleteCue list cue) s →
      let r : Request := .deleteCue list cue
      let s0 := begun d tag r s
      let left := (s.lists.get k).remove cue.toNat
      let u := s0.setList k left
      ((cue.toNat = 0 ∨ 9999 < cue.toNat) → exec (.deleteCue d tag list cue) s =
        .next (answered d tag r .outOfRange [] s0)) ∧
      (1 ≤ cue.toNat → cue.toNat ≤ 9999 →
        ((∀ c ∈ s.lists.get k, c.number ≠ cue.toNat) → exec (.deleteCue d tag list cue) s =
          .next (answered d tag r .noSuch [] s0)) ∧
        ((∃ c ∈ s.lists.get k, c.number = cue.toNat) → exec (.deleteCue d tag list cue) s =
          .next (answered d tag r .done
            (b2 left.length ++ b2 (cueCount u.lists) ++ b2 (entryCount u.lists)) u)))) ∧
    (TakenAtOnce d (.clearList list) s →
      let u := (begun d tag (.clearList list) s).setList k []
      exec (.clearList d tag list) s =
        .next (answered d tag (.clearList list) .done
          (b2 (s.lists.get k).length ++ b2 (cueCount u.lists) ++ b2 (entryCount u.lists)) u))

/-- WRITE CUE writes what it carries, or is refused by the first check of R7 that fails; DELETE CUE and CLEAR
LIST remove what they name (R7 to R10). -/
def Obligations.CueStoreRequestsCheckAndEdit : Prop :=
  Clause.WriteCueWritesTheCueItCarries ∧ Clause.WriteCueChecksInOrder ∧ Clause.DeleteAndClearRemoveCues

/-! ### Patch banks and output stage -/

/-- SET CIRCUIT replaces one record whole, with the proportion clamped to 100; a hot edit that changes the law
number sets that circuit's switch state to OFF; a circuit, source or law out of range is refused OUT OF RANGE
(R92, R93, R178). -/
def Clause.SetCircuitReplacesOneRecord : Prop :=
  ∀ (d : Desk) (tag bank : Byte) (circuit source : Half) (proportion law preheat topSet : Byte) (b : Fin 4)
    (s : State),
    let r : Request := .setCircuit bank circuit source proportion law preheat topSet
    let i := Instr.setCircuit d tag bank circuit source proportion law preheat topSet
    TakenAtOnce d r s → number 4 bank.toNat = some b →
    let s0 := begun d tag r s
    ((circuit.toNat = 0 ∨ 1536 < circuit.toNat ∨ 768 < source.toNat ∨ 8 ≤ law.toNat) →
      exec i s = .next (answered d tag r .outOfRange [] s0)) ∧
    ∀ (k : Fin 1536) (l : Fin 8), circuit.toNat = numbered k → law.toNat = l.val → source.toNat ≤ 768 →
      let new : CircuitRecord := ⟨number 768 source.toNat, min proportion.toNat 100, l, preheat, topSet⟩
      let records := s.patch.banks.get b
      let hot := decide (b = s.level.activeBank)
      let reset := hot && decide ((records.get k).law ≠ l)
      exec i s = .next (answered d tag r .done
        (halfBytes source ++ [BitVec.ofNat 8 (min proportion.toNat 100), law, preheat, topSet] ++
          bYes hot ++ bYes reset)
        { s0 with
          patch := { s.patch with
            banks := s.patch.banks.set b (records.set k new)
            switches := if reset then s.patch.switches.set k false else s.patch.switches } })

/-- COPY BANK and CLEAR BANK write every record of their bank in one step; when the bank is active, the switch
state of each circuit whose law number changes goes OFF and every other state is kept; the reply counts the
records changed and, on a hot edit, the circuits whose law number changes (R94, R95; that a state already OFF
is counted as reset is assumption 15). -/
def Clause.BankEditsWriteWholeBanks : Prop :=
  ∀ (d : Desk) (tag : Byte) (b : Fin 4) (s : State),
    let written := fun (new : Bank) (u : State) =>
      u.patch.banks = s.patch.banks.set b new ∧ u.patch.laws = s.patch.laws ∧
      u.patch.parks = s.patch.parks ∧
      (∀ k, u.patch.switches.get k =
        if b = s.level.activeBank ∧ ((s.patch.banks.get b).get k).law ≠ (new.get k).law then false
        else s.patch.switches.get k)
    let data := fun (new : Bank) =>
      let old := s.patch.banks.get b
      b2 ((List.finRange 1536).countP fun k => decide (old.get k ≠ new.get k)) ++
      b2 (if b = s.level.activeBank then
        (List.finRange 1536).countP fun k => decide ((old.get k).law ≠ (new.get k).law) else 0) ++
      bYes (decide (b = s.level.activeBank))
    (∀ (src dst : Byte) (a : Fin 4), TakenAtOnce d (.copyBank src dst) s → number 4 src.toNat = some a →
      number 4 dst.toNat = some b →
      ∃ u : State, written (s.patch.banks.get a) u ∧
        u = { begun d tag (.copyBank src dst) s with patch := u.patch } ∧
        exec (.copyBank d tag src dst) s =
          .next (answered d tag (.copyBank src dst) .done (data (s.patch.banks.get a)) u)) ∧
    (∀ bank : Byte, TakenAtOnce d (.clearBank bank) s → number 4 bank.toNat = some b →
      ∃ u : State, written (Table.fill 1536 .default) u ∧
        u = { begun d tag (.clearBank bank) s with patch := u.patch } ∧
        exec (.clearBank d tag bank) s =
          .next (answered d tag (.clearBank bank) .done (data (Table.fill 1536 .default)) u))

/-- SET CIRCUIT, COPY BANK and CLEAR BANK (R92 to R95). -/
def Obligations.BankEditsWriteRecordsAndBanks : Prop :=
  Clause.SetCircuitReplacesOneRecord ∧ Clause.BankEditsWriteWholeBanks

/-- SELECT BANK stages a swap in place of any other, due at once for NEXT SCAN alone; CANCEL SWAP removes it,
and is refused WRONG STATE with nothing staged (R69, R97 to R99). The bytes of a staging that replaces nothing
are assumption 13. -/
def Obligations.SwapsAreStagedAndCancelled : Prop :=
  ∀ (d : Desk) (tag : Byte) (s : State),
    let replaced := match s.level.staged with
      | some x => 1 :: swapBytes x
      | none => [0, 0, 0]
    (∀ (bank method playback : Byte) (b : Fin 4), TakenAtOnce d (.selectBank bank method playback) s →
      number 4 bank.toNat = some b →
      let r : Request := .selectBank bank method playback
      let i := Instr.selectBank d tag bank method playback
      let s0 := begun d tag r s
      let staged := fun m due => exec i s = .next
        (answered d tag r .done (stagedBytes ⟨b, m, due⟩ ++ replaced) (s0.setStaged (some ⟨b, m, due⟩)))
      (method = 0 → staged .nextScan true) ∧ (method = 1 → staged .atDark false) ∧
      (method = 3 → staged .onTask false) ∧
      (∀ p, method = 2 → number 6 playback.toNat = some p → staged (.atGo p) false) ∧
      (method = 2 → number 6 playback.toNat = none →
        exec i s = .next (answered d tag r .noSuch [] s0)) ∧
      (3 < method.toNat → exec i s = .next (answered d tag r .outOfRange [] s0))) ∧
    (TakenAtOnce d .cancelSwap s →
      let s0 := begun d tag .cancelSwap s
      (s.level.staged = none → exec (.cancelSwap d tag) s =
        .next (answered d tag .cancelSwap .wrongState [] s0)) ∧
      ∀ x, s.level.staged = some x → exec (.cancelSwap d tag) s =
        .next (answered d tag .cancelSwap .done (swapBytes x) (s0.setStaged none)))

/-- LOAD LAW: Law 0 is NOT PERMITTED, a kind that is not CURVE or SWITCH OUT OF RANGE, a body of the wrong
length BAD REQUEST and thresholds out of order OUT OF RANGE, in this order; otherwise the law is replaced
whole and the switch states of the active bank's circuits that name it go OFF (R110 to R112). The bytes of the
law in the reply are assumption 13. -/
def Obligations.LoadLawReplacesTheLaw : Prop :=
  ∀ (d : Desk) (tag law kind : Byte) (body : List Byte) (l : Fin 8) (s : State),
    let r : Request := .loadLaw law kind body
    let i := Instr.loadLaw d tag law kind body
    TakenAtOnce d r s → law.toNat = l.val →
    let s0 := begun d tag r s
    let refused := fun x => exec i s = .next (answered d tag r x [] s0)
    let bank := s.patch.banks.get s.level.activeBank
    let named := fun k => decide ((bank.get k).law = l)
    let loaded := fun (new : Law) => ∃ u : State,
      u = { s0 with patch := { s.patch with laws := s.patch.laws.set l new, switches := u.patch.switches } } ∧
      (∀ k, u.patch.switches.get k = (s.patch.switches.get k && !named k)) ∧
      exec i s = .next (answered d tag r .done
        (kind :: body ++ b2 ((List.finRange 1536).countP named) ++
          b2 ((List.finRange 1536).countP fun k => named k && s.patch.switches.get k)) u)
    (l = 0 → refused .notPermitted) ∧
    (l ≠ 0 →
      (kind ≠ 1 → kind ≠ 2 → refused .outOfRange) ∧
      (kind = 1 → body.length = 4 → refused .badRequest) ∧
      (kind = 2 → body.length = 17 → refused .badRequest) ∧
      (∀ h : body.length = 17, kind = 1 → loaded (.curve ⟨body, h⟩)) ∧
      ∀ a b x y, kind = 2 → body = [a, b, x, y] →
        let on := (half a b).toNat
        let off := (half x y).toNat
        (off < on → on ≤ 4095 → loaded (.switch on off)) ∧
        ((4095 < on ∨ 4095 < off ∨ on ≤ off) → refused .outOfRange))

/-- PARK replaces the level of a circuit already in the list and inserts any other, unless the list holds 48;
UNPARK removes one entry and UNPARK ALL every entry; a circuit of 0 or above 1536 is refused OUT OF RANGE; the
replies carry the counts (R115 to R117). The bytes of a previous level are assumption 13. -/
def Obligations.ParksAreKeptInTheList : Prop :=
  ∀ (d : Desk) (tag : Byte) (s : State), (s.patch.parks.Pairwise fun a b => a.circuit < b.circuit) →
    let parked := fun (u : State) (parks : List Park) => { u with patch := { s.patch with parks := parks } }
    (∀ circuit : Half, (circuit.toNat = 0 ∨ 1536 < circuit.toNat) →
      (∀ level, TakenAtOnce d (.park circuit level) s → exec (.park d tag circuit level) s =
        .next (answered d tag (.park circuit level) .outOfRange [] (begun d tag (.park circuit level) s))) ∧
      (TakenAtOnce d (.unpark circuit) s → exec (.unpark d tag circuit) s =
        .next (answered d tag (.unpark circuit) .outOfRange [] (begun d tag (.unpark circuit) s)))) ∧
    (∀ (circuit : Half) (k : Fin 1536), circuit.toNat = numbered k →
      (∀ level, TakenAtOnce d (.park circuit level) s →
        let r : Request := .park circuit level
        let s0 := begun d tag r s
        let full := exec (.park d tag circuit level) s = .next (answered d tag r .full [] s0)
        let taken := fun (data : List Byte) => ∃ parks : List Park,
          (parks.Pairwise fun a b => a.circuit < b.circuit) ∧
          (∀ x, x ∈ parks ↔ x = ⟨k, level⟩ ∨ x ∈ s.patch.parks ∧ x.circuit ≠ k) ∧
          exec (.park d tag circuit level) s =
            .next (answered d tag r .done (data ++ b1 parks.length) (parked s0 parks))
        (∀ x ∈ s.patch.parks, x.circuit = k → taken [1, 1, x.level]) ∧
        ((∀ x ∈ s.patch.parks, x.circuit ≠ k) → s.patch.parks.length < 48 → taken [0, 0, 0]) ∧
        ((∀ x ∈ s.patch.parks, x.circuit ≠ k) → 48 ≤ s.patch.parks.length → full)) ∧
      (TakenAtOnce d (.unpark circuit) s →
        let r : Request := .unpark circuit
        let s0 := begun d tag r s
        let left := s.patch.parks.filter fun x => decide (x.circuit ≠ k)
        (∀ x ∈ s.patch.parks, x.circuit = k → exec (.unpark d tag circuit) s =
          .next (answered d tag r .done (x.level :: b1 left.length) (parked s0 left))) ∧
        ((∀ x ∈ s.patch.parks, x.circuit ≠ k) → exec (.unpark d tag circuit) s =
          .next (answered d tag r .noSuch [] s0)))) ∧
    (TakenAtOnce d .unparkAll s → exec (.unparkAll d tag) s =
      .next (answered d tag .unparkAll .done (b1 s.patch.parks.length)
        (parked (begun d tag .unparkAll s) [])))

/-! ### Settings -/

/-- SET GRAND MASTER, BLACKOUT and SET SCAN (clamped to 4 to 40) change their setting alone; the timer in flight
and the period in force keep what they have (R67, R86, R178). -/
def Clause.LevelSettingsChangeAlone : Prop :=
  ∀ (d : Desk) (tag x : Byte) (s : State),
    (TakenAtOnce d (.setGrandMaster x) s → exec (.setGrandMaster d tag x) s =
      .next (answered d tag (.setGrandMaster x) .done [x]
        { begun d tag (.setGrandMaster x) s with level := { s.level with grandMaster := x } })) ∧
    (TakenAtOnce d (.blackout x) s → exec (.blackout d tag x) s =
      .next (answered d tag (.blackout x) .done [if x = 0 then 0 else 1]
        { begun d tag (.blackout x) s with level := { s.level with blackout := decide (x ≠ 0) } })) ∧
    (TakenAtOnce d (.setScan x) s →
      let taken := if x.toNat < 4 then 4 else if 40 < x.toNat then 40 else x.toNat
      exec (.setScan d tag x) s =
        .next (answered d tag (.setScan x) .done [BitVec.ofNat 8 taken]
          { begun d tag (.setScan x) s with level := { s.level with period := taken } }))

/-- SET DESK takes the five settings together, the timeout clamped to 100 to 5000 and the fade time to 600, and
a desk whose silence already reaches the new timeout is lost at once, as DESK_TIMEOUT loses it; a value that
is none of its named ones is refused OUT OF RANGE, and other rights for Desk A are NOT PERMITTED (R61, R62). -/
def Clause.SetDeskTakesFiveSettings : Prop :=
  ∀ (d x : Desk) (tag target : Byte) (timeout : Half) (lossAction : Byte) (fadeTime : Half)
    (merge rights : Byte) (s : State),
    let r : Request := .setDesk target timeout lossAction fadeTime merge rights
    let i := Instr.setDesk d tag target timeout lossAction fadeTime merge rights
    TakenAtOnce d r s → deskOfCode target.toNat = some x →
    let s0 := begun d tag r s
    ((3 ≤ lossAction.toNat ∨ 2 ≤ merge.toNat ∨ 3 ≤ rights.toNat) →
      exec i s = .next (answered d tag r .outOfRange [] s0)) ∧
    ∀ act mrg rts, LossAction.ofCode lossAction.toNat = some act → Merge.ofCode merge.toNat = some mrg →
      Rights.ofCode rights.toNat = some rts →
      (x = .A → rts ≠ .full → exec i s = .next (answered d tag r .notPermitted [] s0)) ∧
      (x = .B ∨ rts = .full →
        let ms := if timeout.toNat < 100 then 100 else if 5000 < timeout.toNat then 5000 else timeout.toNat
        let tenths := if 600 < fadeTime.toNat then 600 else fadeTime.toNat
        let settings : DeskSettings := ⟨ms, act, tenths, mrg, rts⟩
        ∃ u : State,
          exec (.deskTimeout x) (s0.setMonitor x { (s.desk x).monitor with settings := settings }) = .next u ∧
          exec i s = .next (answered d tag r .done
            (b2 ms ++ [lossAction] ++ b2 tenths ++ [merge, rights]) u))

/-- SET GRAND MASTER, BLACKOUT, SET SCAN and SET DESK (R61, R62, R67, R86). -/
def Obligations.LevelAndDeskSettingsAreTaken : Prop :=
  Clause.LevelSettingsChangeAlone ∧ Clause.SetDeskTakesFiveSettings

/-! ### The trigger unit -/

/-- A change of a contact's input away from the accepted level starts the debounce timer, and a return to it
stops the timer with nothing accepted; at the debounce time, or at once with a debounce of 0, the input level
is accepted, and CONTACT is raised when the edge setting names the edge (R133, R134). Without a change, or
before the time, nothing changes (assumption 8). -/
def Clause.ContactsAreDebounced : Prop :=
  ∀ (c : Fin 4) (s : State),
    let x := s.triggers.contacts.get c
    let accepted := fun (high : Bool) =>
      let s' := s.setContact c { x with input := high, accepted := high, timer := none }
      if x.edge = .both ∨ (x.edge = .rising ∧ high = true) ∨ (x.edge = .falling ∧ high = false) then
        raiseEvent ⟨.contact, numbered c, if high then 1 else 2⟩ s'
      else s'
    (∀ high : Bool, high ≠ x.input →
      (high = x.accepted → exec (.contactInputChange c high) s =
        .next (s.setContact c { x with input := high, timer := none })) ∧
      (high ≠ x.accepted → 0 < x.debounce → exec (.contactInputChange c high) s =
        .next (s.setContact c { x with input := high, timer := some 0 })) ∧
      (high ≠ x.accepted → x.debounce = 0 →
        exec (.contactInputChange c high) s = .next (accepted high))) ∧
    exec (.contactInputChange c x.input) s = .next s ∧
    (∀ t, x.timer = some t → x.debounce ≤ t → exec (.debounceExpiry c) s = .next (accepted x.input)) ∧
    ((x.timer = none ∨ ∃ t, x.timer = some t ∧ t < x.debounce) → exec (.debounceExpiry c) s = .next s)

/-- SET CONTACT takes edge and debounce together, clamped to 250, and starts a running timer again, which
reaches its end at once under a debounce of 0; an edge that is none of the four is refused OUT OF RANGE
(R135). The byte of the accepted level is assumption 13. -/
def Clause.SetContactRestartsARunningTimer : Prop :=
  ∀ (d : Desk) (tag contact edge debounce : Byte) (c : Fin 4) (s : State),
    let r : Request := .setContact contact edge debounce
    let i := Instr.setContact d tag contact edge debounce
    TakenAtOnce d r s → number 4 contact.toNat = some c →
    let x := s.triggers.contacts.get c
    let s0 := begun d tag r s
    let ms := if 250 < debounce.toNat then 250 else debounce.toNat
    (4 ≤ edge.toNat → exec i s = .next (answered d tag r .outOfRange [] s0)) ∧
    ∀ e, Edge.ofCode edge.toNat = some e →
      let s1 := s0.setContact c { x with edge := e, debounce := ms, timer := x.timer.map fun _ => 0 }
      let data := fun level : Bool => [edge, BitVec.ofNat 8 ms, if level then 1 else 0]
      (0 < ms ∨ x.timer = none → exec i s = .next (answered d tag r .done (data x.accepted) s1)) ∧
      (ms = 0 → x.timer.isSome = true → ∃ u : State, exec (.debounceExpiry c) s1 = .next u ∧
        exec i s = .next (answered d tag r .done (data x.input) u))

/-- Contact inputs, their debounce and SET CONTACT (R133 to R135). -/
def Obligations.ContactsFollowTheirInputs : Prop :=
  Clause.ContactsAreDebounced ∧ Clause.SetContactRestartsARunningTimer

/-- The advance that brings a clock's count to its compare value is a match: by the state and mode of R137 the
clock stops or runs on, and CLOCK is raised after that with 1 or 0; a clock that owes no advance is left
alone. That the advance is made as CLOCK_MATCH, after the tick that owes it, is assumption 6. -/
def Clause.ClockMatchActsByStateAndMode : Prop :=
  ∀ (c : Fin 3) (s : State),
    let x := s.triggers.clocks.get c
    let at' := { x with count := x.compare, owed := false }
    let raised := fun (y : CueClock) (detail : Nat) =>
      exec (.clockMatch c) s = .next (raiseEvent ⟨.clock, numbered c, detail⟩ (s.setClock c y))
    (x.owed = false → exec (.clockMatch c) s = .next s) ∧
    (x.owed = true → x.count + 1 = x.compare →
      (x.state = .running → x.mode = .oneShot → raised { at' with state := .stopped } 0) ∧
      (x.state = .running → x.mode = .repeat → raised { x with count := x.load, owed := false } 1) ∧
      (x.state = .running → x.mode = .free → raised at' 1) ∧
      (x.state = .stopping → raised { at' with state := .stopped } 0)) ∧
    (x.owed = true → x.state ≠ .stopped → x.count + 1 ≠ x.compare →
      exec (.clockMatch c) s = .next (s.setClock c { x with count := x.count + 1, owed := false }))

/-- CLOCK ACTION by the table of R138, with OUT OF RANGE for a code that is none of the four, and SET CLOCK,
which takes three settings together and keeps count and state (R138, R139). That a STOP before the
millisecond's own advance leaves it unmade clears the model's mark of it (assumption 6). -/
def Clause.ClockRequestsFollowTheirTables : Prop :=
  ∀ (d : Desk) (tag clock : Byte) (c : Fin 3) (s : State), number 3 clock.toNat = some c →
    let x := s.triggers.clocks.get c
    (∀ action, TakenAtOnce d (.clockAction clock action) s →
      let r : Request := .clockAction clock action
      let s0 := begun d tag r s
      let refused := fun why => exec (.clockAction d tag clock action) s =
        .next (answered d tag r why [] s0)
      let left := fun (y : CueClock) => exec (.clockAction d tag clock action) s =
        .next (answered d tag r .done (b1 y.state.code ++ b4 y.count.toNat) (s0.setClock c y))
      (action = 0 → left { x with count := x.load, state := .running }) ∧
      (action = 1 → left { x with state := .running }) ∧
      (action = 2 → left { x with state := .stopped, owed := false }) ∧
      (action = 3 → x.state = .stopped → refused .wrongState) ∧
      (action = 3 → x.state ≠ .stopped → left { x with state := .stopping }) ∧
      (3 < action.toNat → refused .outOfRange)) ∧
    (∀ mode compare load, TakenAtOnce d (.setClock clock mode compare load) s →
      let r : Request := .setClock clock mode compare load
      let i := Instr.setClock d tag clock mode compare load
      let s0 := begun d tag r s
      ((3 ≤ mode.toNat ∨ 16777215 < compare.toNat ∨ 16777215 < load.toNat) →
        exec i s = .next (answered d tag r .outOfRange [] s0)) ∧
      ∀ m, ClockMode.ofCode mode.toNat = some m → compare.toNat ≤ 16777215 → load.toNat ≤ 16777215 →
        exec i s = .next (answered d tag r .done
          ([mode] ++ quadBytes compare ++ quadBytes load ++ b1 x.state.code ++ b4 x.count.toNat)
          (s0.setClock c { x with
            mode := m, compare := compare.setWidth 24, load := load.setWidth 24 })))

/-- Cue clocks at a match, CLOCK ACTION and SET CLOCK (R137 to R139). -/
def Obligations.CueClocksRunAndMatch : Prop :=
  Clause.ClockMatchActsByStateAndMode ∧ Clause.ClockRequestsFollowTheirTables

/-- SET WATCH takes its four settings together, primes an enabled watch and turns the other OFF, with no last
output; SET ROUTE replaces a route's settings whole and keeps its holdoff mark; a field outside its values is
refused OUT OF RANGE (R141, R142, R178). -/
def Clause.SetWatchAndSetRouteReplaceSettings : Prop :=
  ∀ (d : Desk) (tag : Byte) (s : State),
    (∀ (watch : Byte) (circuit : Half) (condition threshold enabled : Byte) (w : Fin 8),
      let r : Request := .setWatch watch circuit condition threshold enabled
      let i := Instr.setWatch d tag watch circuit condition threshold enabled
      TakenAtOnce d r s → number 8 watch.toNat = some w →
      let s0 := begun d tag r s
      ((circuit.toNat = 0 ∨ 1536 < circuit.toNat ∨ 2 ≤ condition.toNat ∨ 2 ≤ enabled.toNat) →
        exec i s = .next (answered d tag r .outOfRange [] s0)) ∧
      ∀ k cond, circuit.toNat = numbered k → Condition.ofCode condition.toNat = some cond →
        enabled.toNat < 2 →
        exec i s = .next (answered d tag r .done [] (s0.setWatch w
          ⟨k, cond, threshold, decide (enabled = 1), if enabled = 1 then .priming else .off, none⟩))) ∧
    ∀ (route enabled sourceKind sourceSubject taskKind taskTarget : Byte) (x : Fin 16),
      let r : Request := .setRoute route enabled sourceKind sourceSubject taskKind taskTarget
      let i := Instr.setRoute d tag route enabled sourceKind sourceSubject taskKind taskTarget
      TakenAtOnce d r s → number 16 route.toNat = some x →
      let s0 := begun d tag r s
      let source := Source.ofCode sourceKind.toNat sourceSubject.toNat
      let task := Task.ofCode taskKind.toNat taskTarget.toNat
      ((2 ≤ enabled.toNat ∨ source = none ∨ task = none) →
        exec i s = .next (answered d tag r .outOfRange [] s0)) ∧
      ∀ a b, enabled.toNat < 2 → source = some a → task = some b →
        exec i s = .next (answered d tag r .done [] (s0.setRoute x
          ⟨decide (enabled = 1), a, b, (s.triggers.routes.get x).holdoff⟩))

/-- The codes of a route's source and task with the subjects and targets that each kind requires; every other
code, and a subject or target out of its range, names none. Any subject of SWAP DONE and any target of BLACKOUT
ON, BLACKOUT OFF and SWAP NOW is taken (R142, R180). -/
def Clause.SourcesAndTasksAreReadFromTheirCodes : Prop :=
  ∀ kind n : Nat,
    (∀ x, Source.ofCode kind n = some x ↔ match x with
      | .playbackGo p => kind = 1 ∧ n = p.val + 1
      | .playbackDone p => kind = 2 ∧ n = p.val + 1
      | .deskLost .A => kind = 5 ∧ n = 1
      | .deskLost .B => kind = 5 ∧ n = 2
      | .deskBack .A => kind = 6 ∧ n = 1
      | .deskBack .B => kind = 6 ∧ n = 2
      | .swapDone => kind = 7
      | .contact c => kind = 8 ∧ n = c.val + 1
      | .clock c => kind = 9 ∧ n = c.val + 1
      | .watch w => kind = 10 ∧ n = w.val + 1) ∧
    ∀ x, Task.ofCode kind n = some x ↔ match x with
      | .go p => kind = 1 ∧ n = p.val + 1
      | .pause p => kind = 2 ∧ n = p.val + 1
      | .resume p => kind = 3 ∧ n = p.val + 1
      | .release p => kind = 4 ∧ n = p.val + 1
      | .start c => kind = 5 ∧ n = c.val + 1
      | .continue c => kind = 6 ∧ n = c.val + 1
      | .stop c => kind = 7 ∧ n = c.val + 1
      | .stopAtMatch c => kind = 8 ∧ n = c.val + 1
      | .blackoutOn => kind = 9
      | .blackoutOff => kind = 10
      | .swapNow => kind = 11

/-- SET WATCH and SET ROUTE replace their settings whole, with the codes that SET ROUTE reads (R141, R142, R178,
R180). -/
def Obligations.WatchesAndRoutesAreSetWhole : Prop :=
  Clause.SetWatchAndSetRouteReplaceSettings ∧ Clause.SourcesAndTasksAreReadFromTheirCodes

/-- A routable event is reported and then offered to the routes in route number order, each route finished with
before the next: one that it meets is refused with HOLDOFF when its mark is set; otherwise its mark is set and
its task is held, when it is of a held class and the phase is COMPUTING, or taken at once. An event that is not
routable is reported and goes no further (R143 to R145, R164). -/
def Clause.RoutesAreOfferedInTurn : Prop :=
  ∀ (e : Event) (s : State),
    (e.kind.routable = false → raiseEvent e s = s.report e) ∧
    (e.kind.routable = true → raiseEvent e s = (List.finRange 16).foldl (fun u x =>
      let route := u.triggers.routes.get x
      if route.Meets e then
        if route.holdoff = true then u.report ⟨.taskRefused, numbered x, 1⟩
        else
          let fired := u.setRoute x { route with holdoff := true }
          if u.level.phase = .computing ∧ route.task.isHeld = true then
            fired.setHeld (u.level.held ++ [.task x route.task])
          else takeTask raiseEvent x route.task fired
      else u) (s.report e))

/-- A routable event that meets no route is reported alone; one that meets a single route has that route's task
refused, held or taken (R143 to R145). -/
def Clause.ASingleRouteFiresOnce : Prop :=
  ∀ (e : Event) (s : State), e.kind.routable = true →
    ((∀ r, ¬(s.triggers.routes.get r).Meets e) → raiseEvent e s = s.report e) ∧
    ∀ r, (∀ x, (s.triggers.routes.get x).Meets e ↔ x = r) →
      let route := s.triggers.routes.get r
      let fired := (s.report e).setRoute r { route with holdoff := true }
      (route.holdoff = true → raiseEvent e s = (s.report e).report ⟨.taskRefused, numbered r, 1⟩) ∧
      (route.holdoff = false → s.level.phase = .computing → route.task.isHeld = true →
        raiseEvent e s = fired.setHeld (s.level.held ++ [.task r route.task])) ∧
      (route.holdoff = false → (s.level.phase = .waiting ∨ route.task.isHeld = false) →
        raiseEvent e s = takeTask raiseEvent r route.task fired)

/-- A holdoff mark that is set stays set through every step but POWER_ON, a SCAN_START that is due and a
SHOW_CLOCK_TICK that may take a due scan start; SET ROUTE and a RESTART carried out keep it. So a route that has
fired does not fire again before the next scan start or power-on (R71, R142, R143, R148). -/
def Clause.HoldoffMarksStand : Prop :=
  ∀ (i : Instr) (rest : List Instr) (s t : State), s.pending = i :: rest → step s = .next t →
    i ≠ .powerOn →
    (i = .scanStart → s.level.phase = .computing ∨ s.level.timer ≠ 0) →
    (i = .showClockTick → s.level.timer ≠ 0 ∨
      s.level.phase = .computing ∧ elapsed s.showClock s.level.work.start < 2) →
    ∀ r, (s.triggers.routes.get r).holdoff = true → (t.triggers.routes.get r).holdoff = true

/-- Events and the route table: several matching routes in their order, a single one, and the mark of a route
that has fired, which stands until the next scan start (R143 to R145, R164). What each task does when it is
taken is TasksActAsTheirRequests; that a scan start clears every mark is
ScanStartLatchesAndRunsThePlaybacks. -/
def Obligations.ARouteFiresOnceBetweenScans : Prop :=
  Clause.RoutesAreOfferedInTurn ∧ Clause.ASingleRouteFiresOnce ∧ Clause.HoldoffMarksStand

/-- The playback tasks, taken as the requests of their names: GO on its next cue or at the end of the list,
which is no refusal, PAUSE, RESUME and RELEASE; TASK REFUSED with WRONG STATE where the request is refused
(R26 to R28, R32 to R34, R44, R144, R145). That a GO is made whole before its first event is assumption 5. -/
def Clause.PlaybackTasksActAsRequests : Prop :=
  ∀ (x : Fin 16) (k : Fin 6) (u : State),
    let pb := u.playbacks.get k
    let takes := fun (task : Task) (t : State) => takeTask raiseEvent x task u = t
    let refused := u.report ⟨.taskRefused, numbered x, 2⟩
    pb.Legal →
    (pb.state = .empty → takes (.go k) refused) ∧
    (∀ l, pb.loaded = some l →
      let missing := missingEvents k (u.lists.get l) pb.current
      (nextCue (u.lists.get l) pb.current = none → takes (.go k)
        (raiseAll raiseEvent (missing ++ [⟨.playbackEnd, numbered k, orZero pb.current⟩])
          (u.setPlayback k (pb.settledWith pb.records pb.current none)))) ∧
      ∀ c, nextCue (u.lists.get l) pb.current = some c →
        (c.entries.Pairwise fun a b => a.channel < b.channel) →
        (∀ f ∈ c.follow, pb.clock + f * 100000 < 2 ^ 64) →
        ∃ records : Table FadeRecord 768, c.MovesSet pb.clock pb.records records ∧
          let after := pb.settledWith records (some c.number) (c.follow.map fun f => pb.clock + f * 100000)
          takes (.go k) (raiseAll raiseEvent (missing ++ goEvents k c.number records)
            ((u.setPlayback k after).goTaken k))) ∧
    ((pb.state = .fading ∨ pb.state = .waiting) →
      takes (.pause k) (u.setPlayback k { pb with state := .paused })) ∧
    (pb.state ≠ .fading → pb.state ≠ .waiting → takes (.pause k) refused) ∧
    (pb.state = .paused →
      takes (.resume k) (u.setPlayback k { pb with state := if pb.moving then .fading else .waiting })) ∧
    (pb.state ≠ .paused → takes (.resume k) refused) ∧
    (pb.state = .empty → takes (.release k) u) ∧
    (pb.state ≠ .empty → ∃ records : Table FadeRecord 768,
      (∀ ch, records.get ch = (pb.records.get ch).setMove pb.clock 0 ⟨0, pb.releaseTime⟩
        ⟨0, pb.releaseTime⟩) ∧
      takes (.release k) (u.setPlayback k (pb.settledWith records none none)))

/-- The clock tasks by the table of R138, of no held class, with STOP AT MATCH refused WRONG STATE on a STOPPED
clock; the blackout tasks, never refused; SWAP NOW, which makes a staged swap due and is refused with NOTHING
STAGED when there is none. The tasks of the last three kinds and those of the playbacks are of held classes
(R76, R81, R86, R138, R144, R145). That a STOP clears the model's mark of an owed advance is assumption 6. -/
def Clause.OtherTasksActAsRequests : Prop :=
  ∀ (x : Fin 16) (u : State),
    let takes := fun (task : Task) (t : State) => takeTask raiseEvent x task u = t
    (∀ c : Fin 3,
      let y := u.triggers.clocks.get c
      takes (.start c) (u.setClock c { y with count := y.load, state := .running }) ∧
      takes (.continue c) (u.setClock c { y with state := .running }) ∧
      takes (.stop c) (u.setClock c { y with state := .stopped, owed := false }) ∧
      (y.state ≠ .stopped → takes (.stopAtMatch c) (u.setClock c { y with state := .stopping })) ∧
      (y.state = .stopped → takes (.stopAtMatch c) (u.report ⟨.taskRefused, numbered x, 2⟩))) ∧
    takes .blackoutOn { u with level := { u.level with blackout := true } } ∧
    takes .blackoutOff { u with level := { u.level with blackout := false } } ∧
    (∀ y, u.level.staged = some y → takes .swapNow (u.setStaged (some { y with due := true }))) ∧
    (u.level.staged = none → takes .swapNow (u.report ⟨.taskRefused, numbered x, 3⟩)) ∧
    ∀ task : Task, task.isHeld = match task with
      | .start _ | .continue _ | .stop _ | .stopAtMatch _ => false
      | _ => true

/-- Every task of a route, taken as the request of its name (R44, R144, R145). -/
def Obligations.TasksActAsTheirRequests : Prop :=
  Clause.PlaybackTasksActAsRequests ∧ Clause.OtherTasksActAsRequests

/-- Every chain of tasks that an event sets off ends within the seventeen firings that the model follows
(assumption 21): allowing it more changes nothing, in any state (R143). -/
def Obligations.EveryChainOfTasksEnds : Prop :=
  ∀ (n : Nat) (e : Event) (s : State), 17 ≤ n → raiseWithin n e s = raiseWithin 17 e s

/-! ### Reports, show memory and time -/

/-- An event sets its flag whatever the mask holds; an enabled kind joins the queue at its tail with the
present show clock, or is dropped with the overrun flag set when the queue holds 32 (R164, R165). -/
def Clause.EventsAreFlaggedAndQueued : Prop :=
  ∀ (e : Event) (s : State),
    let r := s.reports
    let t := s.report e
    let enabled := r.mask.getLsbD e.kind.bit
    t = { s with reports := t.reports } ∧ t.reports.mask = r.mask ∧
    (∀ k : EventKind, t.reports.flags.getLsbD k.bit = (r.flags.getLsbD k.bit || decide (k = e.kind))) ∧
    (enabled = true → r.queue.length < 32 →
      t.reports.queue = r.queue ++ [⟨e, s.showClock⟩] ∧ t.reports.overrun = r.overrun) ∧
    (enabled = true → 32 ≤ r.queue.length → t.reports.queue = r.queue ∧ t.reports.overrun = true) ∧
    (enabled = false → t.reports.queue = r.queue ∧ t.reports.overrun = r.overrun)

/-- TAKE REPORTS removes the oldest reports, one for a count of 0 and at most eight; SET REPORT MASK takes the
fourteen enables; CLEAR FLAGS clears the flags selected, and by bit 15 the overrun flag, and leaves the queue;
each changes nothing else (R166 to R168, R178, R180). That bit 14 of the flags and bits 14 and 15 of the mask
are sent as 0 is assumption 27. -/
def Clause.ReportRequestsChangeTheirPart : Prop :=
  ∀ (d : Desk) (tag : Byte) (s : State),
    let r := s.reports
    (∀ count, TakenAtOnce d (.takeReports count) s →
      let n := if count = 0 then 1 else if 8 < count.toNat then 8 else count.toNat
      exec (.takeReports d tag count) s = .next (answered d tag (.takeReports count) .done
        (b1 (min n r.queue.length) ++ (r.queue.take n).flatMap reportBytes ++ b1 (r.queue.length - n))
        { begun d tag (.takeReports count) s with reports := { r with queue := r.queue.drop n } })) ∧
    (∀ mask, TakenAtOnce d (.setReportMask mask) s →
      exec (.setReportMask d tag mask) s = .next (answered d tag (.setReportMask mask) .done
        (halfBytes (mask &&& 0x3fff))
        { begun d tag (.setReportMask mask) s with reports := { r with mask := mask.setWidth 14 } })) ∧
    (∀ selection, TakenAtOnce d (.clearFlags selection) s → ∃ u : State,
      u = { begun d tag (.clearFlags selection) s with
        reports := { r with flags := u.reports.flags, overrun := u.reports.overrun } } ∧
      (∀ k : Fin 14, u.reports.flags.getLsbD k.val =
        (r.flags.getLsbD k.val && !selection.getLsbD k.val)) ∧
      u.reports.overrun = (r.overrun && !selection.getLsbD 15) ∧
      exec (.clearFlags d tag selection) s = .next (answered d tag (.clearFlags selection) .done
        (halfBytes (flagsField r) ++ halfBytes (flagsField u.reports)) u))

/-- Events become flags and reports, and the three requests of the report unit (R164 to R168). -/
def Obligations.ReportsAreQueuedTakenAndCleared : Prop :=
  Clause.EventsAreFlaggedAndQueued ∧ Clause.ReportRequestsChangeTheirPart

/-- STORE goes to STORING with an image of the items of R170 as they stand, answered STARTED with the show
clock and the flags STORING and MEMORY INVALID set (R169 to R171, R176). -/
def Clause.StoreTakesTheImageAsItStands : Prop :=
  ∀ (d : Desk) (tag : Byte) (s : State), TakenAtOnce d .store s →
    ∃ i : Image,
      i.banks = s.patch.banks ∧ i.activeBank = s.level.activeBank ∧ i.period = s.level.period ∧
      i.laws = s.patch.laws ∧ i.lists = s.lists ∧
      (∀ p, i.playbacks.get p = ⟨(s.playbacks.get p).loaded, (s.playbacks.get p).releaseTime,
        (s.playbacks.get p).backTime⟩) ∧
      i.deskA = s.deskA.monitor.settings ∧ i.deskB = s.deskB.monitor.settings ∧
      (∀ l, i.links.get l = ⟨(s.links.get l).enabled, (s.links.get l).mask⟩) ∧
      (∀ c, i.contacts.get c =
        ⟨(s.triggers.contacts.get c).edge, (s.triggers.contacts.get c).debounce⟩) ∧
      (∀ c, i.clocks.get c = ⟨(s.triggers.clocks.get c).mode, (s.triggers.clocks.get c).compare,
        (s.triggers.clocks.get c).load⟩) ∧
      (∀ w, i.watches.get w = ⟨(s.triggers.watches.get w).circuit, (s.triggers.watches.get w).condition,
        (s.triggers.watches.get w).threshold, (s.triggers.watches.get w).enabled⟩) ∧
      (∀ r, i.routes.get r = ⟨(s.triggers.routes.get r).enabled, (s.triggers.routes.get r).source,
        (s.triggers.routes.get r).task⟩) ∧
      i.mask = s.reports.mask ∧
      let u := { begun d tag .store s with memory := .storing i s.showClock }
      exec (.store d tag) s = .next (answered d tag .store .started (quadBytes s.showClock) u) ∧
      (replyFlags u).getLsbD 2 = true ∧ (replyFlags u).getLsbD 3 = true

/-- A store ends VALID with STORE DONE and its length in ms, or INVALID with STORE FAILED; both are reported
and not routed; with no store in progress the occurrence changes nothing (R164, R171). That last case is
assumption 8. -/
def Clause.StoreEndsValidOrInvalid : Prop :=
  ∀ s : State,
    (∀ i since, s.memory = .storing i since →
      exec .storeDone s = .next
        (({ s with memory := .valid i }).report ⟨.storeDone, 0, (s.showClock - since).toNat⟩) ∧
      exec .storeFailed s = .next (({ s with memory := .invalid }).report ⟨.storeFailed, 0, 0⟩)) ∧
    (s.memory.isStoring = false → exec .storeDone s = .next s ∧ exec .storeFailed s = .next s)

/-- STORE and its two ends (R170, R171). -/
def Obligations.StoreWritesTheImageAndEnds : Prop :=
  Clause.StoreTakesTheImageAsItStands ∧ Clause.StoreEndsValidOrInvalid

/-- A millisecond that leaves nothing due untaken: the show clock, the scan timer, the running refresh and
debounce timers and the cue clocks move by one, and nothing else changes; a clock whose advance reaches its
compare value owes that advance to CLOCK_MATCH, which is the model's choice (R67, R127, R133, R136, R163,
assumption 6). -/
def Clause.TickAdvancesEveryCount : Prop :=
  ∀ s : State,
    (∀ c, (s.triggers.clocks.get c).owed = false) →
    (∀ c t, (s.triggers.contacts.get c).timer = some t → t < (s.triggers.contacts.get c).debounce) →
    (∀ d t, (s.desk d).monitor.state = .active → (s.desk d).monitor.lastLevels = some t →
      (s.showClock - t).toNat < (s.desk d).monitor.settings.timeout) →
    (∀ d x, (s.desk d).monitor.fadeRunning = true → (s.desk d).monitor.loss = some x →
      (s.showClock - x.moment).toNat < x.fadeTime) →
    (∀ l t, (s.links.get l).refresh = some t → t < 100) →
    (s.level.phase = .computing → (s.showClock - s.level.work.start).toNat < 2) →
    (∀ i since, s.memory = .storing i since → (s.showClock - since).toNat < 3000) →
    (s.level.phase = .waiting → 0 < s.level.timer) →
    ∃ t : State, exec .showClockTick s = .next t ∧
      t = { s with
        showClock := s.showClock + 1
        level := { s.level with timer := s.level.timer - 1 }
        links := t.links
        triggers := { s.triggers with contacts := t.triggers.contacts, clocks := t.triggers.clocks } } ∧
      (∀ l, t.links.get l = { s.links.get l with refresh := (s.links.get l).refresh.map (· + 1) }) ∧
      (∀ c, t.triggers.contacts.get c =
        { s.triggers.contacts.get c with timer := (s.triggers.contacts.get c).timer.map (· + 1) }) ∧
      ∀ c, let x := s.triggers.clocks.get c
        t.triggers.clocks.get c =
          if x.state = .stopped then x
          else if x.count + 1 = x.compare then { x with owed := true }
          else { x with count := x.count + 1 }

/-- The occurrences that are due in the millisecond that ends are taken before the next one begins: a tick
with a scan timer at 0 in WAITING makes the scan start first (R67, R68), and with a computation 2 ms old makes
its compute end first (R68). The order among several is the model's choice (assumption 7). -/
def Clause.TickTakesWhatIsDue : Prop :=
  ∀ s : State,
    (∀ c, (s.triggers.clocks.get c).owed = false) → (∀ c, (s.triggers.contacts.get c).timer = none) →
    (∀ d, (s.desk d).monitor.state = .absent ∧ (s.desk d).monitor.fadeRunning = false) →
    (∀ l, (s.links.get l).refresh = none) → s.memory.isStoring = false →
    (s.level.phase = .waiting → s.level.timer = 0 →
      ∃ t, exec .scanStart s = .next t ∧
        (t.level.work.start = s.showClock ∧ t.level.phase = .computing) ∧
        exec .showClockTick s = .next (advanceMillisecond t)) ∧
    (s.level.phase = .computing → 2 ≤ (s.showClock - s.level.work.start).toNat → 0 < s.level.timer →
      ∃ t, exec .computeEnd s = .next t ∧ exec .showClockTick s = .next (advanceMillisecond t))

/-- A millisecond moves every count by one, and takes first what the ending millisecond left due (R163). -/
def Obligations.TickAdvancesTimeExactly : Prop :=
  Clause.TickAdvancesEveryCount ∧ Clause.TickTakesWhatIsDue

/-! ### Reads -/

/-- READ DESK carries a desk's state, settings, error count before any clearing, refresh interval, silence and
latest loss (R64); READ CUE a whole cue with the number above it, NO SUCH for a cue not in the list and OUT OF
RANGE above 9999, and for cue 0 the list's counts, the totals and its first cue (R15). The bytes of presence
are assumption 13. -/
def Clause.ReadDeskAndReadCueAnswer : Prop :=
  ∀ (d : Desk) (tag : Byte) (s : State),
    (∀ target clear y, TakenAtOnce d (.readDesk target clear) s → deskOfCode target.toNat = some y →
      let r : Request := .readDesk target clear
      let s0 := begun d tag r s
      let m := (s.desk y).monitor
      let since := fun t : Time => s.showClock - t
      exec (.readDesk d tag target clear) s = .next (answered d tag r .done
        (b1 m.state.code ++ settingsBytes m.settings ++ b2 (s.desk y).receiver.errors ++
          bOpt quadBytes 0 m.refreshInterval ++ bOpt quadBytes 0 (m.lastLevels.map since) ++
          bOpt quadBytes 0 (m.loss.map fun x => x.moment) ++
          bOpt b1 0 (m.loss.map fun x => x.action.code) ++ bOpt b4 0 (m.loss.map fun x => x.fadeTime) ++
          bYes m.fadeRunning ++
          bOpt quadBytes 0 (if m.fadeRunning then m.loss.map fun x => since x.moment else none))
        (if clear = 0 then s0 else s0.setReceiver y { (s.desk y).receiver with errors := 0 }))) ∧
    ∀ list cue k, TakenAtOnce d (.readCue list cue) s → number 8 list.toNat = some k →
      let r : Request := .readCue list cue
      let s0 := begun d tag r s
      let l := s.lists.get k
      let answer := fun x data => exec (.readCue d tag list cue) s = .next (answered d tag r x data s0)
      (9999 < cue.toNat → answer .outOfRange []) ∧
      (cue = 0 → answer .done (b2 l.length ++ b2 (l.map fun c => c.entries.length).sum ++
        b2 (cueCount s.lists) ++ b2 (entryCount s.lists) ++ b2 (orZero (l.first.map (·.number))))) ∧
      (1 ≤ cue.toNat → cue.toNat ≤ 9999 → l.at cue.toNat = none → answer .noSuch []) ∧
      ∀ c, 1 ≤ cue.toNat → cue.toNat ≤ 9999 → l.at cue.toNat = some c →
        answer .done (cueBytes c ++ b2 (orZero ((l.above cue.toNat).map (·.number))))

/-- READ CHANNEL and READ CIRCUIT answer from the last completed scan record, the record fields of a circuit
from the bank of that scan as it now stands, and the park list as it now stands; READ PLAYBACK answers with
the playback and, for a channel, its fade record, and while the phase is COMPUTING as it stood before this
scan's work; a number out of range is refused OUT OF RANGE (R43, R84, R119, R161). The bytes of presence are
assumption 13. -/
def Obligations.ReadsOfTheScanAnswer : Prop :=
  ∀ (d : Desk) (tag : Byte) (s : State),
    let scan := s.level.last
    (∀ channel, TakenAtOnce d (.readChannel channel) s →
      let r : Request := .readChannel channel
      let answer := fun x data => exec (.readChannel d tag channel) s =
        .next (answered d tag r x data (begun d tag r s))
      ((channel = 0 ∨ 768 < channel.toNat) → answer .outOfRange []) ∧
      ∀ c : Fin 768, channel.toNat = numbered c →
        let present := fun p : DeskPresent =>
          if p.contributed then 1 :: b2 (p.levels.get c) else [0, 0, 0]
        answer .done (quadBytes scan.start ++ present scan.deskA ++ present scan.deskB ++
          bYes scan.deskA.scaled ++ bYes scan.deskB.scaled ++
          (scan.contributions.rows.flatMap fun t => b2 (t.get c)) ++ b2 (scan.merged.get c) ++
          [scan.grandMaster] ++ bYes scan.blackout ++ b2 (scan.levels.get c))) ∧
    (∀ circuit, TakenAtOnce d (.readCircuit circuit) s →
      let r : Request := .readCircuit circuit
      let answer := fun x data => exec (.readCircuit d tag circuit) s =
        .next (answered d tag r x data (begun d tag r s))
      (1536 < circuit.toNat → answer .outOfRange []) ∧
      (circuit = 0 → answer .done (b1 s.patch.parks.length ++
        (s.patch.parks.flatMap fun x => b2 (numbered x.circuit) ++ [x.level]) ++
        b2 (scan.circuits.count (·.switchOn)) ++ bYes scan.dark)) ∧
      ∀ k : Fin 1536, circuit.toNat = numbered k →
        let record := (s.patch.banks.get scan.bank).get k
        let x := scan.circuits.get k
        answer .done (quadBytes scan.start ++ b1 (numbered scan.bank) ++ recordFields record ++
          (match record.source with
            | some c => 1 :: b2 (scan.levels.get c)
            | none => [0, 0, 0]) ++
          b2 x.intensity ++ bYes x.parked ++ bYes x.switchOn ++ b1 x.output)) ∧
    ∀ playback channel p, TakenAtOnce d (.readPlayback playback channel) s →
      number 6 playback.toNat = some p →
      let r : Request := .readPlayback playback channel
      let answer := fun x data => exec (.readPlayback d tag playback channel) s =
        .next (answered d tag r x data (begun d tag r s))
      let pb := if s.level.phase = .computing then s.level.beforeScan.get p else s.playbacks.get p
      let items := playbackData pb ++ b8 pb.clock ++ bOpt b8 0 pb.follow ++ [pb.master] ++ b2 pb.rate ++
        b2 pb.releaseTime ++ b2 pb.backTime ++ b2 (pb.records.count (·.moving))
      (768 < channel.toNat → answer .outOfRange []) ∧
      (channel = 0 → answer .done items) ∧
      ∀ c : Fin 768, channel.toNat = numbered c → answer .done (items ++ recordBytes (pb.records.get c))

/-- READ BANK ENTRY and READ LAW answer from the bank and the law as they stand (R96, R113); READ STATUS and
READ TRIGGERS carry the items of R147 and R160 in their order (R85, R131, R169). The layouts that R178 leaves
open are assumption 13. -/
def Clause.ReadsOfTheTablesAnswer : Prop :=
  ∀ (d : Desk) (tag : Byte) (s : State),
    (∀ bank circuit b, TakenAtOnce d (.readBankEntry bank circuit) s → number 4 bank.toNat = some b →
      let r : Request := .readBankEntry bank circuit
      let answer := fun x data => exec (.readBankEntry d tag bank circuit) s =
        .next (answered d tag r x data (begun d tag r s))
      let records := s.patch.banks.get b
      let active := if b = s.level.activeBank then [1] else [0]
      let staged := if ∃ x ∈ s.level.staged, x.target = b then [1] else [0]
      (1536 < circuit.toNat → answer .outOfRange []) ∧
      (circuit = 0 → answer .done (active ++ staged ++ b2 (records.count fun x => x.source.isSome) ++
        b2 (records.count fun x => decide (x ≠ .default)))) ∧
      ∀ k : Fin 1536, circuit.toNat = numbered k →
        answer .done (recordFields (records.get k) ++ active)) ∧
    (∀ law (l : Fin 8), TakenAtOnce d (.readLaw law) s → law.toNat = l.val →
      exec (.readLaw d tag law) s = .next (answered d tag (.readLaw law) .done
        ((match s.patch.laws.get l with
            | .linear => [0]
            | .curve points => 1 :: points.rows
            | .switch on off => 2 :: b2 on ++ b2 off) ++
          b2 ((s.patch.banks.get s.level.activeBank).count fun x => decide (x.law = l)))
        (begun d tag (.readLaw law) s))) ∧
    (TakenAtOnce d .readStatus s →
      let s0 := begun d tag .readStatus s
      exec (.readStatus d tag) s = .next (answered d tag .readStatus .done
        (quadBytes s.showClock ++ deskStatus s0.deskA ++ deskStatus s0.deskB ++ [BitVec.ofNat 8 (deskCode d)] ++
          (s.playbacks.rows.flatMap playbackData) ++ b2 (cueCount s.lists) ++ b2 (entryCount s.lists) ++
          b1 s.patch.parks.length ++ levelStatus s.level ++ (s.links.rows.flatMap linkBytes) ++
          memoryStatus s) s0)) ∧
    (TakenAtOnce d .readTriggers s →
      exec (.readTriggers d tag) s = .next (answered d tag .readTriggers .done
        ((s.triggers.contacts.rows.flatMap contactBytes) ++ (s.triggers.clocks.rows.flatMap clockBytes) ++
          (s.triggers.watches.rows.flatMap watchBytes) ++ (s.triggers.routes.rows.flatMap routeBytes))
        (begun d tag .readTriggers s)))

/-- The bytes of the items of READ STATUS and READ TRIGGERS, field by field (R85, R131, R147, R160, R169, R178):
numbers high byte first, yes as 1, and an optional item without a reserved value after its byte of presence,
which the subject and target of a route have too. Where R178 leaves a reading open it is assumption 13,
18 or 27. -/
def Clause.StatusItemsAreLaidOut : Prop :=
  (∀ n : Nat, b1 n = [BitVec.ofNat 8 n] ∧ b2 n = b1 (n / 256) ++ b1 n ∧ b4 n = b2 (n / 65536) ++ b2 n ∧
    b8 n = b4 (n / 2 ^ 32) ++ b4 n) ∧
  (∀ x : Quad, quadBytes x = b4 x.toNat) ∧ (∀ x : Half, halfBytes x = b2 x.toNat) ∧
  bYes true = [1] ∧ bYes false = [0] ∧
  (∀ (width : Nat → List Byte) (x : Nat), bOpt width 0 (some x) = 1 :: width x) ∧
  bOpt b1 0 none = [0, 0] ∧ bOpt b2 0 none = [0, 0, 0] ∧ bOpt b4 0 none = [0, 0, 0, 0, 0] ∧
  (∀ u : DeskUnit, deskStatus u = b1 u.monitor.state.code ++ b1 u.monitor.settings.merge.code ++
    b1 u.monitor.settings.rights.code ++ b1 u.port.buffer.code) ∧
  (∀ pb : Playback, playbackData pb = b1 pb.state.code ++ b1 (orZero (pb.loaded.map numbered)) ++
    b2 (orZero pb.current)) ∧
  (∀ x : LevelProcessor, levelStatus x = b1 x.period ++ [x.grandMaster] ++ bYes x.blackout ++
    b1 (numbered x.activeBank) ++
    (match x.staged with
      | none => [0, 0, 0, 0, 0, 0]
      | some y => [1] ++ b1 (numbered y.target) ++ b1 y.method.code ++
        (match y.method with
          | .atGo p => 1 :: b1 (numbered p)
          | _ => [0, 0]) ++ bYes y.due) ++
    bYes x.dark ++ b4 x.last.start.toNat) ∧
  (∀ t : Transmitter, linkBytes t = bYes t.enabled ++ b1 t.mask.toNat ++
    (match t.state with
      | .idle => [0, 0]
      | .sending a => 1 :: b1 a.val) ++
    b1 ((t.cycle.map fun a => 2 ^ a.val).sum) ++ bYes t.queued.isSome ++ bYes t.last.isSome ++
    bOpt b4 0 t.refresh) ∧
  (∀ s : State, memoryStatus s = b1 s.reports.queue.length ++
    b2 (s.reports.flags.toNat + if s.reports.overrun then 32768 else 0) ++ b2 s.reports.mask.toNat ++
    (match s.memory with
      | .valid _ => [0, 0, 0, 0, 0, 0]
      | .invalid => [1, 0, 0, 0, 0, 0]
      | .storing _ since => [2, 1] ++ b4 (s.showClock - since).toNat)) ∧
  (∀ x : Contact, contactBytes x = b1 x.edge.code ++ b1 x.debounce ++ bYes x.accepted ++ bYes x.input ++
    bOpt b4 0 x.timer) ∧
  (∀ x : CueClock, clockBytes x = b1 x.mode.code ++ b4 x.compare.toNat ++ b4 x.load.toNat ++
    b4 x.count.toNat ++ b1 x.state.code) ∧
  (∀ x : Watch, watchBytes x = b2 (numbered x.circuit) ++ b1 x.condition.code ++ [x.threshold] ++
    bYes x.enabled ++ b1 x.state.code ++ bOpt b1 0 x.lastOutput) ∧
  ∀ x : Route, routeBytes x = bYes x.enabled ++ b1 x.source.kind.code ++
    (match x.source with
      | .playbackGo p | .playbackDone p => 1 :: b1 (numbered p)
      | .deskLost d | .deskBack d => [1, match d with
        | .A => 1
        | .B => 2]
      | .swapDone => [0, 0]
      | .contact c => 1 :: b1 (numbered c)
      | .clock c => 1 :: b1 (numbered c)
      | .watch w => 1 :: b1 (numbered w)) ++
    b1 x.task.code ++
    (match x.task with
      | .go p | .pause p | .resume p | .release p => 1 :: b1 (numbered p)
      | .start c | .continue c | .stop c | .stopAtMatch c => 1 :: b1 (numbered c)
      | .blackoutOn | .blackoutOff | .swapNow => [0, 0]) ++ bYes x.holdoff

/-- The numeric codes of R180 for the named values of these items. -/
def Clause.NamedValuesHaveTheirCodes : Prop :=
  [PlaybackState.empty, .idle, .fading, .waiting, .paused].map (·.code) = [0, 1, 2, 3, 4] ∧
  [DeskState.absent, .active, .lost].map (·.code) = [0, 1, 2] ∧
  [LossAction.hold, .drop, .fade].map (·.code) = [0, 1, 2] ∧ [Merge.htp, .off].map (·.code) = [0, 1] ∧
  [Rights.full, .playback, .none].map (·.code) = [0, 1, 2] ∧
  (∀ c : Command, [Buffer.empty, .waiting c, .taken c, .answering c].map (·.code) = [0, 1, 2, 3]) ∧
  (∀ p, [Method.nextScan, .atDark, .atGo p, .onTask].map (·.code) = [0, 1, 2, 3]) ∧
  [Edge.off, .rising, .falling, .both].map (·.code) = [0, 1, 2, 3] ∧
  [ClockMode.oneShot, .repeat, .free].map (·.code) = [0, 1, 2] ∧
  [ClockState.stopped, .running, .stopping].map (·.code) = [0, 1, 2] ∧
  [Condition.above, .below].map (·.code) = [0, 1] ∧
  [WatchState.off, .priming, .clear, .met].map (·.code) = [0, 1, 2, 3] ∧
  [EventKind.playbackGo, .playbackDone, .playbackEnd, .linkMissing, .deskLost, .deskBack, .swapDone,
    .contact, .clock, .watch, .taskRefused, .setSkipped, .storeDone, .storeFailed].map (·.code) =
    [1, 2, 3, 4, 5, 6, 7, 8, 9, 10, 11, 12, 13, 14] ∧
  (∀ p c, [Task.go p, .pause p, .resume p, .release p, .start c, .continue c, .stop c, .stopAtMatch c,
    .blackoutOn, .blackoutOff, .swapNow].map (·.code) = [1, 2, 3, 4, 5, 6, 7, 8, 9, 10, 11])

/-- A field that holds a named value is read by these codes, and a code outside the set names none (R178,
R180). -/
def Clause.CodesAreReadBack : Prop :=
  ∀ n : Nat,
    (∀ x, Edge.ofCode n = some x ↔ n = x.code) ∧ (∀ x, ClockMode.ofCode n = some x ↔ n = x.code) ∧
    (∀ x, Condition.ofCode n = some x ↔ n = x.code) ∧ (∀ x, LossAction.ofCode n = some x ↔ n = x.code) ∧
    (∀ x, Merge.ofCode n = some x ↔ n = x.code) ∧ (∀ x, Rights.ofCode n = some x ↔ n = x.code)

/-- The records of the reads and reports, field by field: the settings of a desk, a circuit record, a cue record
as WRITE CUE carries it, a fade record, a swap, a report (R19, R62, R89, R178 to R180). -/
def Clause.RecordsAreLaidOut : Prop :=
  (∀ x : DeskSettings, settingsBytes x = b2 x.timeout ++ b1 x.lossAction.code ++ b2 x.lossFadeTime ++
    b1 x.merge.code ++ b1 x.rights.code) ∧
  (∀ r : CircuitRecord, recordFields r = (match r.source with
      | some c => b2 (numbered c)
      | none => [0, 0]) ++ b1 r.proportion ++ b1 r.law.val ++ [r.preheat, r.topSet]) ∧
  (∀ c : Cue, cueBytes c = b2 c.number ++ b2 c.upTime ++ b2 c.downTime ++ b2 c.upDelay ++ b2 c.downDelay ++
    (match c.follow with
      | some f => b2 f
      | none => [255, 255]) ++
    (match c.link with
      | some k => b2 k
      | none => [0, 0]) ++
    b2 c.entries.length ++ c.entries.flatMap fun e => b2 (numbered e.channel) ++ [e.level]) ∧
  (∀ r : FadeRecord, recordBytes r = b2 r.level ++ b2 r.start ++ b2 r.target ++ b4 r.delay ++ b4 r.time ++
    b8 r.origin ++ bYes r.moving) ∧
  (∀ x : Staged, swapBytes x = b1 (numbered x.target) ++ b1 x.method.code ∧
    stagedBytes x = swapBytes x ++ (match x.method with
      | .atGo p => 1 :: b1 (numbered p)
      | _ => [0, 0]) ++ bYes x.due) ∧
  (∀ r : Report, reportBytes r = b1 r.event.kind.code ++ b1 r.event.subject ++ b2 r.event.detail ++
    quadBytes r.time) ∧
  ∀ k : Option Nat, orZero k = match k with
    | some n => n
    | none => 0

/-- READ DESK, READ CUE, READ BANK ENTRY, READ LAW, READ STATUS and READ TRIGGERS answer from their owners,
with their items laid out byte by byte (R161, R178, R180). -/
def Obligations.ReadsOfOwnersAnswer : Prop :=
  Clause.ReadDeskAndReadCueAnswer ∧ Clause.ReadsOfTheTablesAnswer ∧ Clause.StatusItemsAreLaidOut ∧
    Clause.NamedValuesHaveTheirCodes ∧ Clause.CodesAreReadBack ∧ Clause.RecordsAreLaidOut

/-! ### Invariants of every step -/

/-- A predicate that every step keeps. -/
def Kept (p : State → Prop) : Prop := ∀ s t : State, p s → step s = .next t → p t

/-- The state after reset meets every invariant stated below. That the state after reset has an INVALID memory
and low contacts is assumption 4. -/
def Obligations.ResetMeetsEveryInvariant : Prop :=
  CueStoreInv State.reset ∧ PlaybacksInv State.reset ∧ LevelsInv State.reset ∧ SettingsInv State.reset ∧
  PortsInv State.reset ∧ HeldInv State.reset ∧ LinksInv State.reset ∧ TriggersInv State.reset

/-- Every step keeps the lists in strictly ascending cue number, the cues in their ranges with entries in
strictly ascending channel, and the totals within 1,000 cues and 32,768 entries (R1, R2, R4, R5). -/
def Obligations.StepKeepsTheCueStore : Prop := Kept CueStoreInv

/-- Every step keeps each playback in the condition that R18 gives for its state, with a fade clock of 0 in
IDLE (R20) and its settings in range (R17). -/
def Obligations.StepKeepsThePlaybacks : Prop := Kept PlaybacksInv

/-- Every step keeps every live value, playback level, channel level and circuit intensity in 0 to 4095 and
every output value in 0 to 255, and each fade record at rest at its target or between start and target (R19,
R66). -/
def Obligations.StepKeepsTheLevelScales : Prop := Kept LevelsInv

/-- Every step keeps the settings in range: Desk A's FULL rights, Law 0 LINEAR, the scan period, the park list
of at most 48 in ascending circuit, the report queue of at most 32, the error counts (R48, R61, R67, R105,
R115, R165). -/
def Obligations.StepKeepsTheSettings : Prop := Kept SettingsInv

/-- Every step keeps the command buffers and reply lists in order: at most three BUSY replies and one final
reply, ANSWERING exactly while that reply waits, TAKEN exactly while HOLDING, and no command WAITING at an IDLE
processor (R149 to R151, R159). -/
def Obligations.StepKeepsTheCommandBuffers : Prop := Kept PortsInv

/-- Every step keeps the held-request list empty while the phase is WAITING, with at most one command and one
task of each route in it otherwise; so it never holds more than 17 requests (R76, R77). -/
def Obligations.StepKeepsTheHeldRequests : Prop :=
  Kept HeldInv ∧ ∀ s : State, HeldInv s → s.level.held.length ≤ 17

/-- Every step keeps each rack transmitter as R121 describes it: no set and no cycle in flight while IDLE, the
current set the last set while SENDING, the refresh timer running only in IDLE with a last set (R121, R125,
R127, R129). -/
def Obligations.StepKeepsTheRackLinks : Prop := Kept LinksInv

/-- Every step keeps contacts and watches as R133 and R140 describe them: a debounce timer runs exactly when the
input differs from the accepted level, a watch is OFF exactly when it is not enabled and holds a last output
only in CLEAR and MET. The clause on clocks is the model's own, not R136's: the mark `owed`, which R136 does
not have, stands only on a clock that is not STOPPED (assumptions 6 and 20). -/
def Obligations.StepKeepsTheTriggerUnit : Prop := Kept TriggersInv
end

