-- ==== Sys2Proof/Laws/Table.lean ====
section
/-! SUPPORT. The laws of tables: what a row reads as after each operation. -/

namespace Sys2Proof

variable {α β γ : Type} {n : Nat}

theorem Table.ext {t u : Table α n} (h : ∀ i, t.get i = u.get i) : t = u := by
  obtain ⟨a, ha⟩ := t
  obtain ⟨b, hb⟩ := u
  have : a = b := by
    apply List.ext_getElem (by rw [ha, hb])
    intro i h1 h2
    have := h ⟨i, by omega⟩
    simpa [Table.get] using this
  subst this
  rfl

theorem Table.get_eq (t : Table α n) (i : Fin n) :
    t.get i = t.rows[i.val]'(by rw [t.size]; exact i.isLt) := by
  simp [Table.get]

@[simp] theorem Table.get_set_self (t : Table α n) (i : Fin n) (a : α) : (t.set i a).get i = a := by
  simp [Table.get_eq, Table.set]

@[simp] theorem Table.get_set_ne (t : Table α n) {i j : Fin n} (h : i ≠ j) (a : α) :
    (t.set i a).get j = t.get j := by
  have : i.val ≠ j.val := fun e => h (Fin.ext e)
  simp [Table.get_eq, Table.set, this]

theorem Table.get_set (t : Table α n) (i j : Fin n) (a : α) :
    (t.set i a).get j = if i = j then a else t.get j := by
  split
  · subst_vars; simp
  · rename_i h; simp [h]

@[simp] theorem Table.set_get_self (t : Table α n) (i : Fin n) : t.set i (t.get i) = t := by
  apply Table.ext
  intro j
  rw [Table.get_set]
  split
  · subst_vars; rfl
  · rfl

@[simp] theorem Table.set_set (t : Table α n) (i : Fin n) (a b : α) :
    (t.set i a).set i b = t.set i b := by
  apply Table.ext
  intro j
  simp only [Table.get_set]
  split <;> rfl

@[simp] theorem Table.get_fill (i : Fin n) (a : α) : (Table.fill n a).get i = a := by
  simp [Table.get_eq, Table.fill]

@[simp] theorem Table.get_indices (i : Fin n) : (Table.indices n).get i = i := by
  simp [Table.get_eq, Table.indices]

@[simp] theorem Table.get_map (f : α → β) (t : Table α n) (i : Fin n) : (t.map f).get i = f (t.get i) := by
  simp [Table.get_eq, Table.map]

@[simp] theorem Table.get_zip (f : α → β → γ) (t : Table α n) (u : Table β n) (i : Fin n) :
    (Table.zip f t u).get i = f (t.get i) (u.get i) := by
  simp [Table.get_eq, Table.zip]

@[simp] theorem Table.get_tab (f : Fin n → α) (i : Fin n) : (Table.tab f).get i = f i := by
  simp [Table.tab]

@[simp] theorem Table.map_fill (f : α → β) (a : α) : (Table.fill n a).map f = Table.fill n (f a) := by
  apply Table.ext
  simp

theorem Table.mem_rows {t : Table α n} {a : α} : a ∈ t.rows ↔ ∃ i, t.get i = a := by
  constructor
  · intro h
    obtain ⟨i, hi, rfl⟩ := List.getElem_of_mem h
    exact ⟨⟨i, by rw [← t.size]; exact hi⟩, by simp [Table.get_eq]⟩
  · rintro ⟨i, rfl⟩
    rw [Table.get_eq]
    exact List.getElem_mem _

theorem Table.all_iff {t : Table α n} {p : α → Bool} : t.all p = true ↔ ∀ i, p (t.get i) = true := by
  simp only [Table.all, List.all_eq_true, Table.mem_rows]
  constructor
  · intro h i; exact h _ ⟨i, rfl⟩
  · rintro h _ ⟨i, rfl⟩; exact h i

theorem Table.any_iff {t : Table α n} {p : α → Bool} : t.any p = true ↔ ∃ i, p (t.get i) = true := by
  simp only [Table.any, List.any_eq_true, Table.mem_rows]
  constructor
  · rintro ⟨_, ⟨i, rfl⟩, h⟩; exact ⟨i, h⟩
  · rintro ⟨i, h⟩; exact ⟨_, ⟨i, rfl⟩, h⟩

theorem Table.any_eq_false {t : Table α n} {p : α → Bool} :
    t.any p = false ↔ ∀ i, p (t.get i) = false := by
  rw [← Bool.not_eq_true, Table.any_iff]
  simp

end Sys2Proof
end

