-- ==== Sys2Proof/Laws/State.lean ====
section
/-! SUPPORT. One lemma per field per update of the state, each true by unfolding, so that no later proof
unfolds a record update. -/

namespace Sys2Proof.Machine

@[simp] theorem State.desk_setDesk_self (s : State) (d : Desk) (u : DeskUnit) :
    (s.setDesk d u).desk d = u := by
  cases d <;> rfl

@[simp] theorem State.desk_setDesk_other (s : State) (d : Desk) (u : DeskUnit) :
    (s.setDesk d u).desk d.other = s.desk d.other := by
  cases d <;> rfl

theorem State.desk_setDesk (s : State) (d x : Desk) (u : DeskUnit) :
    (s.setDesk d u).desk x = if x = d then u else s.desk x := by
  cases d <;> cases x <;> rfl

@[simp] theorem State.setDesk_setDesk (s : State) (d : Desk) (u v : DeskUnit) :
    (s.setDesk d u).setDesk d v = s.setDesk d v := by
  cases d <;> rfl

@[simp] theorem State.setDesk_desk (s : State) (d : Desk) : s.setDesk d (s.desk d) = s := by
  cases d <;> rfl

theorem State.ext_desks {s t : State} (h : ∀ d, s.desk d = t.desk d) : s.deskA = t.deskA ∧ s.deskB = t.deskB :=
  ⟨h .A, h .B⟩

/-! ### State.setDesk -/

@[simp] theorem State.setDesk_lists (s : State) (d : Desk) (u : DeskUnit) : (s.setDesk d u).lists = s.lists := by
  cases d <;> rfl

@[simp] theorem State.setDesk_playbacks (s : State) (d : Desk) (u : DeskUnit) : (s.setDesk d u).playbacks = s.playbacks := by
  cases d <;> rfl

@[simp] theorem State.setDesk_level (s : State) (d : Desk) (u : DeskUnit) : (s.setDesk d u).level = s.level := by
  cases d <;> rfl

@[simp] theorem State.setDesk_patch (s : State) (d : Desk) (u : DeskUnit) : (s.setDesk d u).patch = s.patch := by
  cases d <;> rfl

@[simp] theorem State.setDesk_links (s : State) (d : Desk) (u : DeskUnit) : (s.setDesk d u).links = s.links := by
  cases d <;> rfl

@[simp] theorem State.setDesk_triggers (s : State) (d : Desk) (u : DeskUnit) : (s.setDesk d u).triggers = s.triggers := by
  cases d <;> rfl

@[simp] theorem State.setDesk_processor (s : State) (d : Desk) (u : DeskUnit) : (s.setDesk d u).processor = s.processor := by
  cases d <;> rfl

@[simp] theorem State.setDesk_reports (s : State) (d : Desk) (u : DeskUnit) : (s.setDesk d u).reports = s.reports := by
  cases d <;> rfl

@[simp] theorem State.setDesk_showClock (s : State) (d : Desk) (u : DeskUnit) : (s.setDesk d u).showClock = s.showClock := by
  cases d <;> rfl

@[simp] theorem State.setDesk_memory (s : State) (d : Desk) (u : DeskUnit) : (s.setDesk d u).memory = s.memory := by
  cases d <;> rfl

@[simp] theorem State.setDesk_choices (s : State) (d : Desk) (u : DeskUnit) : (s.setDesk d u).choices = s.choices := by
  cases d <;> rfl

@[simp] theorem State.setDesk_pending (s : State) (d : Desk) (u : DeskUnit) : (s.setDesk d u).pending = s.pending := by
  cases d <;> rfl

/-! ### State.setReceiver -/

@[simp] theorem State.setReceiver_lists (s : State) (d : Desk) (u : Receiver) : (s.setReceiver d u).lists = s.lists := by
  cases d <;> rfl

@[simp] theorem State.setReceiver_playbacks (s : State) (d : Desk) (u : Receiver) : (s.setReceiver d u).playbacks = s.playbacks := by
  cases d <;> rfl

@[simp] theorem State.setReceiver_level (s : State) (d : Desk) (u : Receiver) : (s.setReceiver d u).level = s.level := by
  cases d <;> rfl

@[simp] theorem State.setReceiver_patch (s : State) (d : Desk) (u : Receiver) : (s.setReceiver d u).patch = s.patch := by
  cases d <;> rfl

@[simp] theorem State.setReceiver_links (s : State) (d : Desk) (u : Receiver) : (s.setReceiver d u).links = s.links := by
  cases d <;> rfl

@[simp] theorem State.setReceiver_triggers (s : State) (d : Desk) (u : Receiver) : (s.setReceiver d u).triggers = s.triggers := by
  cases d <;> rfl

@[simp] theorem State.setReceiver_processor (s : State) (d : Desk) (u : Receiver) : (s.setReceiver d u).processor = s.processor := by
  cases d <;> rfl

@[simp] theorem State.setReceiver_reports (s : State) (d : Desk) (u : Receiver) : (s.setReceiver d u).reports = s.reports := by
  cases d <;> rfl

@[simp] theorem State.setReceiver_showClock (s : State) (d : Desk) (u : Receiver) : (s.setReceiver d u).showClock = s.showClock := by
  cases d <;> rfl

@[simp] theorem State.setReceiver_memory (s : State) (d : Desk) (u : Receiver) : (s.setReceiver d u).memory = s.memory := by
  cases d <;> rfl

@[simp] theorem State.setReceiver_choices (s : State) (d : Desk) (u : Receiver) : (s.setReceiver d u).choices = s.choices := by
  cases d <;> rfl

@[simp] theorem State.setReceiver_pending (s : State) (d : Desk) (u : Receiver) : (s.setReceiver d u).pending = s.pending := by
  cases d <;> rfl

/-! ### State.setMonitor -/

@[simp] theorem State.setMonitor_lists (s : State) (d : Desk) (u : Monitor) : (s.setMonitor d u).lists = s.lists := by
  cases d <;> rfl

@[simp] theorem State.setMonitor_playbacks (s : State) (d : Desk) (u : Monitor) : (s.setMonitor d u).playbacks = s.playbacks := by
  cases d <;> rfl

@[simp] theorem State.setMonitor_level (s : State) (d : Desk) (u : Monitor) : (s.setMonitor d u).level = s.level := by
  cases d <;> rfl

@[simp] theorem State.setMonitor_patch (s : State) (d : Desk) (u : Monitor) : (s.setMonitor d u).patch = s.patch := by
  cases d <;> rfl

@[simp] theorem State.setMonitor_links (s : State) (d : Desk) (u : Monitor) : (s.setMonitor d u).links = s.links := by
  cases d <;> rfl

@[simp] theorem State.setMonitor_triggers (s : State) (d : Desk) (u : Monitor) : (s.setMonitor d u).triggers = s.triggers := by
  cases d <;> rfl

@[simp] theorem State.setMonitor_processor (s : State) (d : Desk) (u : Monitor) : (s.setMonitor d u).processor = s.processor := by
  cases d <;> rfl

@[simp] theorem State.setMonitor_reports (s : State) (d : Desk) (u : Monitor) : (s.setMonitor d u).reports = s.reports := by
  cases d <;> rfl

@[simp] theorem State.setMonitor_showClock (s : State) (d : Desk) (u : Monitor) : (s.setMonitor d u).showClock = s.showClock := by
  cases d <;> rfl

@[simp] theorem State.setMonitor_memory (s : State) (d : Desk) (u : Monitor) : (s.setMonitor d u).memory = s.memory := by
  cases d <;> rfl

@[simp] theorem State.setMonitor_choices (s : State) (d : Desk) (u : Monitor) : (s.setMonitor d u).choices = s.choices := by
  cases d <;> rfl

@[simp] theorem State.setMonitor_pending (s : State) (d : Desk) (u : Monitor) : (s.setMonitor d u).pending = s.pending := by
  cases d <;> rfl

/-! ### State.setPort -/

@[simp] theorem State.setPort_lists (s : State) (d : Desk) (u : Port) : (s.setPort d u).lists = s.lists := by
  cases d <;> rfl

@[simp] theorem State.setPort_playbacks (s : State) (d : Desk) (u : Port) : (s.setPort d u).playbacks = s.playbacks := by
  cases d <;> rfl

@[simp] theorem State.setPort_level (s : State) (d : Desk) (u : Port) : (s.setPort d u).level = s.level := by
  cases d <;> rfl

@[simp] theorem State.setPort_patch (s : State) (d : Desk) (u : Port) : (s.setPort d u).patch = s.patch := by
  cases d <;> rfl

@[simp] theorem State.setPort_links (s : State) (d : Desk) (u : Port) : (s.setPort d u).links = s.links := by
  cases d <;> rfl

@[simp] theorem State.setPort_triggers (s : State) (d : Desk) (u : Port) : (s.setPort d u).triggers = s.triggers := by
  cases d <;> rfl

@[simp] theorem State.setPort_processor (s : State) (d : Desk) (u : Port) : (s.setPort d u).processor = s.processor := by
  cases d <;> rfl

@[simp] theorem State.setPort_reports (s : State) (d : Desk) (u : Port) : (s.setPort d u).reports = s.reports := by
  cases d <;> rfl

@[simp] theorem State.setPort_showClock (s : State) (d : Desk) (u : Port) : (s.setPort d u).showClock = s.showClock := by
  cases d <;> rfl

@[simp] theorem State.setPort_memory (s : State) (d : Desk) (u : Port) : (s.setPort d u).memory = s.memory := by
  cases d <;> rfl

@[simp] theorem State.setPort_choices (s : State) (d : Desk) (u : Port) : (s.setPort d u).choices = s.choices := by
  cases d <;> rfl

@[simp] theorem State.setPort_pending (s : State) (d : Desk) (u : Port) : (s.setPort d u).pending = s.pending := by
  cases d <;> rfl

/-! ### State.setBuffer -/

@[simp] theorem State.setBuffer_lists (s : State) (d : Desk) (u : Buffer) : (s.setBuffer d u).lists = s.lists := by
  cases d <;> rfl

@[simp] theorem State.setBuffer_playbacks (s : State) (d : Desk) (u : Buffer) : (s.setBuffer d u).playbacks = s.playbacks := by
  cases d <;> rfl

@[simp] theorem State.setBuffer_level (s : State) (d : Desk) (u : Buffer) : (s.setBuffer d u).level = s.level := by
  cases d <;> rfl

@[simp] theorem State.setBuffer_patch (s : State) (d : Desk) (u : Buffer) : (s.setBuffer d u).patch = s.patch := by
  cases d <;> rfl

@[simp] theorem State.setBuffer_links (s : State) (d : Desk) (u : Buffer) : (s.setBuffer d u).links = s.links := by
  cases d <;> rfl

@[simp] theorem State.setBuffer_triggers (s : State) (d : Desk) (u : Buffer) : (s.setBuffer d u).triggers = s.triggers := by
  cases d <;> rfl

@[simp] theorem State.setBuffer_processor (s : State) (d : Desk) (u : Buffer) : (s.setBuffer d u).processor = s.processor := by
  cases d <;> rfl

@[simp] theorem State.setBuffer_reports (s : State) (d : Desk) (u : Buffer) : (s.setBuffer d u).reports = s.reports := by
  cases d <;> rfl

@[simp] theorem State.setBuffer_showClock (s : State) (d : Desk) (u : Buffer) : (s.setBuffer d u).showClock = s.showClock := by
  cases d <;> rfl

@[simp] theorem State.setBuffer_memory (s : State) (d : Desk) (u : Buffer) : (s.setBuffer d u).memory = s.memory := by
  cases d <;> rfl

@[simp] theorem State.setBuffer_choices (s : State) (d : Desk) (u : Buffer) : (s.setBuffer d u).choices = s.choices := by
  cases d <;> rfl

@[simp] theorem State.setBuffer_pending (s : State) (d : Desk) (u : Buffer) : (s.setBuffer d u).pending = s.pending := by
  cases d <;> rfl

/-! ### State.setReplies -/

@[simp] theorem State.setReplies_lists (s : State) (d : Desk) (u : List Reply) : (s.setReplies d u).lists = s.lists := by
  cases d <;> rfl

@[simp] theorem State.setReplies_playbacks (s : State) (d : Desk) (u : List Reply) : (s.setReplies d u).playbacks = s.playbacks := by
  cases d <;> rfl

@[simp] theorem State.setReplies_level (s : State) (d : Desk) (u : List Reply) : (s.setReplies d u).level = s.level := by
  cases d <;> rfl

@[simp] theorem State.setReplies_patch (s : State) (d : Desk) (u : List Reply) : (s.setReplies d u).patch = s.patch := by
  cases d <;> rfl

@[simp] theorem State.setReplies_links (s : State) (d : Desk) (u : List Reply) : (s.setReplies d u).links = s.links := by
  cases d <;> rfl

@[simp] theorem State.setReplies_triggers (s : State) (d : Desk) (u : List Reply) : (s.setReplies d u).triggers = s.triggers := by
  cases d <;> rfl

@[simp] theorem State.setReplies_processor (s : State) (d : Desk) (u : List Reply) : (s.setReplies d u).processor = s.processor := by
  cases d <;> rfl

@[simp] theorem State.setReplies_reports (s : State) (d : Desk) (u : List Reply) : (s.setReplies d u).reports = s.reports := by
  cases d <;> rfl

@[simp] theorem State.setReplies_showClock (s : State) (d : Desk) (u : List Reply) : (s.setReplies d u).showClock = s.showClock := by
  cases d <;> rfl

@[simp] theorem State.setReplies_memory (s : State) (d : Desk) (u : List Reply) : (s.setReplies d u).memory = s.memory := by
  cases d <;> rfl

@[simp] theorem State.setReplies_choices (s : State) (d : Desk) (u : List Reply) : (s.setReplies d u).choices = s.choices := by
  cases d <;> rfl

@[simp] theorem State.setReplies_pending (s : State) (d : Desk) (u : List Reply) : (s.setReplies d u).pending = s.pending := by
  cases d <;> rfl

theorem State.desk_setReceiver (s : State) (d x : Desk) (u : Receiver) :
    (s.setReceiver d u).desk x = if x = d then { s.desk d with receiver := u } else s.desk x := by
  cases d <;> cases x <;> rfl

@[simp] theorem State.setReceiver_desk_receiver (s : State) (d : Desk) (u : Receiver) : ((s.setReceiver d u).desk d).receiver = u := by
  cases d <;> rfl

@[simp] theorem State.setReceiver_desk_monitor (s : State) (d x : Desk) (u : Receiver) : ((s.setReceiver d u).desk x).monitor = (s.desk x).monitor := by
  cases d <;> cases x <;> rfl

@[simp] theorem State.setReceiver_desk_port (s : State) (d x : Desk) (u : Receiver) : ((s.setReceiver d u).desk x).port = (s.desk x).port := by
  cases d <;> cases x <;> rfl

@[simp] theorem State.setReceiver_desk_other (s : State) (d : Desk) (u : Receiver) : (s.setReceiver d u).desk d.other = s.desk d.other := by
  cases d <;> rfl

theorem State.desk_setMonitor (s : State) (d x : Desk) (u : Monitor) :
    (s.setMonitor d u).desk x = if x = d then { s.desk d with monitor := u } else s.desk x := by
  cases d <;> cases x <;> rfl

@[simp] theorem State.setMonitor_desk_receiver (s : State) (d x : Desk) (u : Monitor) : ((s.setMonitor d u).desk x).receiver = (s.desk x).receiver := by
  cases d <;> cases x <;> rfl

@[simp] theorem State.setMonitor_desk_monitor (s : State) (d : Desk) (u : Monitor) : ((s.setMonitor d u).desk d).monitor = u := by
  cases d <;> rfl

@[simp] theorem State.setMonitor_desk_port (s : State) (d x : Desk) (u : Monitor) : ((s.setMonitor d u).desk x).port = (s.desk x).port := by
  cases d <;> cases x <;> rfl

@[simp] theorem State.setMonitor_desk_other (s : State) (d : Desk) (u : Monitor) : (s.setMonitor d u).desk d.other = s.desk d.other := by
  cases d <;> rfl

theorem State.desk_setPort (s : State) (d x : Desk) (u : Port) :
    (s.setPort d u).desk x = if x = d then { s.desk d with port := u } else s.desk x := by
  cases d <;> cases x <;> rfl

@[simp] theorem State.setPort_desk_receiver (s : State) (d x : Desk) (u : Port) : ((s.setPort d u).desk x).receiver = (s.desk x).receiver := by
  cases d <;> cases x <;> rfl

@[simp] theorem State.setPort_desk_monitor (s : State) (d x : Desk) (u : Port) : ((s.setPort d u).desk x).monitor = (s.desk x).monitor := by
  cases d <;> cases x <;> rfl

@[simp] theorem State.setPort_desk_port (s : State) (d : Desk) (u : Port) : ((s.setPort d u).desk d).port = u := by
  cases d <;> rfl

@[simp] theorem State.setPort_desk_other (s : State) (d : Desk) (u : Port) : (s.setPort d u).desk d.other = s.desk d.other := by
  cases d <;> rfl

@[simp] theorem State.setBuffer_desk_buffer (s : State) (d : Desk) (u : Buffer) :
    ((s.setBuffer d u).desk d).port.buffer = u := by
  cases d <;> rfl

@[simp] theorem State.setBuffer_desk_replies (s : State) (d x : Desk) (u : Buffer) :
    ((s.setBuffer d u).desk x).port.replies = (s.desk x).port.replies := by
  cases d <;> cases x <;> rfl

@[simp] theorem State.setBuffer_desk_receiver (s : State) (d x : Desk) (u : Buffer) :
    ((s.setBuffer d u).desk x).receiver = (s.desk x).receiver := by
  cases d <;> cases x <;> rfl

@[simp] theorem State.setBuffer_desk_monitor (s : State) (d x : Desk) (u : Buffer) :
    ((s.setBuffer d u).desk x).monitor = (s.desk x).monitor := by
  cases d <;> cases x <;> rfl

@[simp] theorem State.setBuffer_desk_other (s : State) (d : Desk) (u : Buffer) :
    (s.setBuffer d u).desk d.other = s.desk d.other := by
  cases d <;> rfl

@[simp] theorem State.setBuffer_setBuffer (s : State) (d : Desk) (u v : Buffer) :
    (s.setBuffer d u).setBuffer d v = s.setBuffer d v := by
  cases d <;> rfl

@[simp] theorem State.setReplies_desk_replies (s : State) (d : Desk) (u : List Reply) :
    ((s.setReplies d u).desk d).port.replies = u := by
  cases d <;> rfl

@[simp] theorem State.setReplies_desk_buffer (s : State) (d x : Desk) (u : List Reply) :
    ((s.setReplies d u).desk x).port.buffer = (s.desk x).port.buffer := by
  cases d <;> cases x <;> rfl

@[simp] theorem State.setReplies_desk_receiver (s : State) (d x : Desk) (u : List Reply) :
    ((s.setReplies d u).desk x).receiver = (s.desk x).receiver := by
  cases d <;> cases x <;> rfl

@[simp] theorem State.setReplies_desk_monitor (s : State) (d x : Desk) (u : List Reply) :
    ((s.setReplies d u).desk x).monitor = (s.desk x).monitor := by
  cases d <;> cases x <;> rfl

@[simp] theorem State.setReplies_desk_other (s : State) (d : Desk) (u : List Reply) :
    (s.setReplies d u).desk d.other = s.desk d.other := by
  cases d <;> rfl

@[simp] theorem State.setReplies_setReplies (s : State) (d : Desk) (u v : List Reply) :
    (s.setReplies d u).setReplies d v = s.setReplies d v := by
  cases d <;> rfl

/-! ### State.setPlayback -/

@[simp] theorem State.setPlayback_deskA (s : State) (p : Fin 6) (u : Playback) : (s.setPlayback p u).deskA = s.deskA := rfl

@[simp] theorem State.setPlayback_deskB (s : State) (p : Fin 6) (u : Playback) : (s.setPlayback p u).deskB = s.deskB := rfl

@[simp] theorem State.setPlayback_lists (s : State) (p : Fin 6) (u : Playback) : (s.setPlayback p u).lists = s.lists := rfl

@[simp] theorem State.setPlayback_playbacks (s : State) (p : Fin 6) (u : Playback) :
    (s.setPlayback p u).playbacks = s.playbacks.set p u := rfl

@[simp] theorem State.setPlayback_level (s : State) (p : Fin 6) (u : Playback) : (s.setPlayback p u).level = s.level := rfl

@[simp] theorem State.setPlayback_patch (s : State) (p : Fin 6) (u : Playback) : (s.setPlayback p u).patch = s.patch := rfl

@[simp] theorem State.setPlayback_links (s : State) (p : Fin 6) (u : Playback) : (s.setPlayback p u).links = s.links := rfl

@[simp] theorem State.setPlayback_triggers (s : State) (p : Fin 6) (u : Playback) : (s.setPlayback p u).triggers = s.triggers := rfl

@[simp] theorem State.setPlayback_processor (s : State) (p : Fin 6) (u : Playback) : (s.setPlayback p u).processor = s.processor := rfl

@[simp] theorem State.setPlayback_reports (s : State) (p : Fin 6) (u : Playback) : (s.setPlayback p u).reports = s.reports := rfl

@[simp] theorem State.setPlayback_showClock (s : State) (p : Fin 6) (u : Playback) : (s.setPlayback p u).showClock = s.showClock := rfl

@[simp] theorem State.setPlayback_memory (s : State) (p : Fin 6) (u : Playback) : (s.setPlayback p u).memory = s.memory := rfl

@[simp] theorem State.setPlayback_choices (s : State) (p : Fin 6) (u : Playback) : (s.setPlayback p u).choices = s.choices := rfl

@[simp] theorem State.setPlayback_pending (s : State) (p : Fin 6) (u : Playback) : (s.setPlayback p u).pending = s.pending := rfl

@[simp] theorem State.setPlayback_desk (s : State) (p : Fin 6) (u : Playback) (d : Desk) : (s.setPlayback p u).desk d = s.desk d := by
  cases d <;> rfl

/-! ### State.setList -/

@[simp] theorem State.setList_deskA (s : State) (l : Fin 8) (u : CueList) : (s.setList l u).deskA = s.deskA := rfl

@[simp] theorem State.setList_deskB (s : State) (l : Fin 8) (u : CueList) : (s.setList l u).deskB = s.deskB := rfl

@[simp] theorem State.setList_lists (s : State) (l : Fin 8) (u : CueList) :
    (s.setList l u).lists = s.lists.set l u := rfl

@[simp] theorem State.setList_playbacks (s : State) (l : Fin 8) (u : CueList) : (s.setList l u).playbacks = s.playbacks := rfl

@[simp] theorem State.setList_level (s : State) (l : Fin 8) (u : CueList) : (s.setList l u).level = s.level := rfl

@[simp] theorem State.setList_patch (s : State) (l : Fin 8) (u : CueList) : (s.setList l u).patch = s.patch := rfl

@[simp] theorem State.setList_links (s : State) (l : Fin 8) (u : CueList) : (s.setList l u).links = s.links := rfl

@[simp] theorem State.setList_triggers (s : State) (l : Fin 8) (u : CueList) : (s.setList l u).triggers = s.triggers := rfl

@[simp] theorem State.setList_processor (s : State) (l : Fin 8) (u : CueList) : (s.setList l u).processor = s.processor := rfl

@[simp] theorem State.setList_reports (s : State) (l : Fin 8) (u : CueList) : (s.setList l u).reports = s.reports := rfl

@[simp] theorem State.setList_showClock (s : State) (l : Fin 8) (u : CueList) : (s.setList l u).showClock = s.showClock := rfl

@[simp] theorem State.setList_memory (s : State) (l : Fin 8) (u : CueList) : (s.setList l u).memory = s.memory := rfl

@[simp] theorem State.setList_choices (s : State) (l : Fin 8) (u : CueList) : (s.setList l u).choices = s.choices := rfl

@[simp] theorem State.setList_pending (s : State) (l : Fin 8) (u : CueList) : (s.setList l u).pending = s.pending := rfl

@[simp] theorem State.setList_desk (s : State) (l : Fin 8) (u : CueList) (d : Desk) : (s.setList l u).desk d = s.desk d := by
  cases d <;> rfl

/-! ### State.setLink -/

@[simp] theorem State.setLink_deskA (s : State) (l : Fin 4) (u : Transmitter) : (s.setLink l u).deskA = s.deskA := rfl

@[simp] theorem State.setLink_deskB (s : State) (l : Fin 4) (u : Transmitter) : (s.setLink l u).deskB = s.deskB := rfl

@[simp] theorem State.setLink_lists (s : State) (l : Fin 4) (u : Transmitter) : (s.setLink l u).lists = s.lists := rfl

@[simp] theorem State.setLink_playbacks (s : State) (l : Fin 4) (u : Transmitter) : (s.setLink l u).playbacks = s.playbacks := rfl

@[simp] theorem State.setLink_level (s : State) (l : Fin 4) (u : Transmitter) : (s.setLink l u).level = s.level := rfl

@[simp] theorem State.setLink_patch (s : State) (l : Fin 4) (u : Transmitter) : (s.setLink l u).patch = s.patch := rfl

@[simp] theorem State.setLink_links (s : State) (l : Fin 4) (u : Transmitter) :
    (s.setLink l u).links = s.links.set l u := rfl

@[simp] theorem State.setLink_triggers (s : State) (l : Fin 4) (u : Transmitter) : (s.setLink l u).triggers = s.triggers := rfl

@[simp] theorem State.setLink_processor (s : State) (l : Fin 4) (u : Transmitter) : (s.setLink l u).processor = s.processor := rfl

@[simp] theorem State.setLink_reports (s : State) (l : Fin 4) (u : Transmitter) : (s.setLink l u).reports = s.reports := rfl

@[simp] theorem State.setLink_showClock (s : State) (l : Fin 4) (u : Transmitter) : (s.setLink l u).showClock = s.showClock := rfl

@[simp] theorem State.setLink_memory (s : State) (l : Fin 4) (u : Transmitter) : (s.setLink l u).memory = s.memory := rfl

@[simp] theorem State.setLink_choices (s : State) (l : Fin 4) (u : Transmitter) : (s.setLink l u).choices = s.choices := rfl

@[simp] theorem State.setLink_pending (s : State) (l : Fin 4) (u : Transmitter) : (s.setLink l u).pending = s.pending := rfl

@[simp] theorem State.setLink_desk (s : State) (l : Fin 4) (u : Transmitter) (d : Desk) : (s.setLink l u).desk d = s.desk d := by
  cases d <;> rfl

/-! ### State.setContact -/

@[simp] theorem State.setContact_deskA (s : State) (c : Fin 4) (u : Contact) : (s.setContact c u).deskA = s.deskA := rfl

@[simp] theorem State.setContact_deskB (s : State) (c : Fin 4) (u : Contact) : (s.setContact c u).deskB = s.deskB := rfl

@[simp] theorem State.setContact_lists (s : State) (c : Fin 4) (u : Contact) : (s.setContact c u).lists = s.lists := rfl

@[simp] theorem State.setContact_playbacks (s : State) (c : Fin 4) (u : Contact) : (s.setContact c u).playbacks = s.playbacks := rfl

@[simp] theorem State.setContact_level (s : State) (c : Fin 4) (u : Contact) : (s.setContact c u).level = s.level := rfl

@[simp] theorem State.setContact_patch (s : State) (c : Fin 4) (u : Contact) : (s.setContact c u).patch = s.patch := rfl

@[simp] theorem State.setContact_links (s : State) (c : Fin 4) (u : Contact) : (s.setContact c u).links = s.links := rfl

@[simp] theorem State.setContact_triggers (s : State) (c : Fin 4) (u : Contact) :
    (s.setContact c u).triggers = { s.triggers with contacts := s.triggers.contacts.set c u } := rfl

@[simp] theorem State.setContact_processor (s : State) (c : Fin 4) (u : Contact) : (s.setContact c u).processor = s.processor := rfl

@[simp] theorem State.setContact_reports (s : State) (c : Fin 4) (u : Contact) : (s.setContact c u).reports = s.reports := rfl

@[simp] theorem State.setContact_showClock (s : State) (c : Fin 4) (u : Contact) : (s.setContact c u).showClock = s.showClock := rfl

@[simp] theorem State.setContact_memory (s : State) (c : Fin 4) (u : Contact) : (s.setContact c u).memory = s.memory := rfl

@[simp] theorem State.setContact_choices (s : State) (c : Fin 4) (u : Contact) : (s.setContact c u).choices = s.choices := rfl

@[simp] theorem State.setContact_pending (s : State) (c : Fin 4) (u : Contact) : (s.setContact c u).pending = s.pending := rfl

@[simp] theorem State.setContact_desk (s : State) (c : Fin 4) (u : Contact) (d : Desk) : (s.setContact c u).desk d = s.desk d := by
  cases d <;> rfl

/-! ### State.setClock -/

@[simp] theorem State.setClock_deskA (s : State) (c : Fin 3) (u : CueClock) : (s.setClock c u).deskA = s.deskA := rfl

@[simp] theorem State.setClock_deskB (s : State) (c : Fin 3) (u : CueClock) : (s.setClock c u).deskB = s.deskB := rfl

@[simp] theorem State.setClock_lists (s : State) (c : Fin 3) (u : CueClock) : (s.setClock c u).lists = s.lists := rfl

@[simp] theorem State.setClock_playbacks (s : State) (c : Fin 3) (u : CueClock) : (s.setClock c u).playbacks = s.playbacks := rfl

@[simp] theorem State.setClock_level (s : State) (c : Fin 3) (u : CueClock) : (s.setClock c u).level = s.level := rfl

@[simp] theorem State.setClock_patch (s : State) (c : Fin 3) (u : CueClock) : (s.setClock c u).patch = s.patch := rfl

@[simp] theorem State.setClock_links (s : State) (c : Fin 3) (u : CueClock) : (s.setClock c u).links = s.links := rfl

@[simp] theorem State.setClock_triggers (s : State) (c : Fin 3) (u : CueClock) :
    (s.setClock c u).triggers = { s.triggers with clocks := s.triggers.clocks.set c u } := rfl

@[simp] theorem State.setClock_processor (s : State) (c : Fin 3) (u : CueClock) : (s.setClock c u).processor = s.processor := rfl

@[simp] theorem State.setClock_reports (s : State) (c : Fin 3) (u : CueClock) : (s.setClock c u).reports = s.reports := rfl

@[simp] theorem State.setClock_showClock (s : State) (c : Fin 3) (u : CueClock) : (s.setClock c u).showClock = s.showClock := rfl

@[simp] theorem State.setClock_memory (s : State) (c : Fin 3) (u : CueClock) : (s.setClock c u).memory = s.memory := rfl

@[simp] theorem State.setClock_choices (s : State) (c : Fin 3) (u : CueClock) : (s.setClock c u).choices = s.choices := rfl

@[simp] theorem State.setClock_pending (s : State) (c : Fin 3) (u : CueClock) : (s.setClock c u).pending = s.pending := rfl

@[simp] theorem State.setClock_desk (s : State) (c : Fin 3) (u : CueClock) (d : Desk) : (s.setClock c u).desk d = s.desk d := by
  cases d <;> rfl

/-! ### State.setWatch -/

@[simp] theorem State.setWatch_deskA (s : State) (w : Fin 8) (u : Watch) : (s.setWatch w u).deskA = s.deskA := rfl

@[simp] theorem State.setWatch_deskB (s : State) (w : Fin 8) (u : Watch) : (s.setWatch w u).deskB = s.deskB := rfl

@[simp] theorem State.setWatch_lists (s : State) (w : Fin 8) (u : Watch) : (s.setWatch w u).lists = s.lists := rfl

@[simp] theorem State.setWatch_playbacks (s : State) (w : Fin 8) (u : Watch) : (s.setWatch w u).playbacks = s.playbacks := rfl

@[simp] theorem State.setWatch_level (s : State) (w : Fin 8) (u : Watch) : (s.setWatch w u).level = s.level := rfl

@[simp] theorem State.setWatch_patch (s : State) (w : Fin 8) (u : Watch) : (s.setWatch w u).patch = s.patch := rfl

@[simp] theorem State.setWatch_links (s : State) (w : Fin 8) (u : Watch) : (s.setWatch w u).links = s.links := rfl

@[simp] theorem State.setWatch_triggers (s : State) (w : Fin 8) (u : Watch) :
    (s.setWatch w u).triggers = { s.triggers with watches := s.triggers.watches.set w u } := rfl

@[simp] theorem State.setWatch_processor (s : State) (w : Fin 8) (u : Watch) : (s.setWatch w u).processor = s.processor := rfl

@[simp] theorem State.setWatch_reports (s : State) (w : Fin 8) (u : Watch) : (s.setWatch w u).reports = s.reports := rfl

@[simp] theorem State.setWatch_showClock (s : State) (w : Fin 8) (u : Watch) : (s.setWatch w u).showClock = s.showClock := rfl

@[simp] theorem State.setWatch_memory (s : State) (w : Fin 8) (u : Watch) : (s.setWatch w u).memory = s.memory := rfl

@[simp] theorem State.setWatch_choices (s : State) (w : Fin 8) (u : Watch) : (s.setWatch w u).choices = s.choices := rfl

@[simp] theorem State.setWatch_pending (s : State) (w : Fin 8) (u : Watch) : (s.setWatch w u).pending = s.pending := rfl

@[simp] theorem State.setWatch_desk (s : State) (w : Fin 8) (u : Watch) (d : Desk) : (s.setWatch w u).desk d = s.desk d := by
  cases d <;> rfl

/-! ### State.setRoute -/

@[simp] theorem State.setRoute_deskA (s : State) (r : Fin 16) (u : Route) : (s.setRoute r u).deskA = s.deskA := rfl

@[simp] theorem State.setRoute_deskB (s : State) (r : Fin 16) (u : Route) : (s.setRoute r u).deskB = s.deskB := rfl

@[simp] theorem State.setRoute_lists (s : State) (r : Fin 16) (u : Route) : (s.setRoute r u).lists = s.lists := rfl

@[simp] theorem State.setRoute_playbacks (s : State) (r : Fin 16) (u : Route) : (s.setRoute r u).playbacks = s.playbacks := rfl

@[simp] theorem State.setRoute_level (s : State) (r : Fin 16) (u : Route) : (s.setRoute r u).level = s.level := rfl

@[simp] theorem State.setRoute_patch (s : State) (r : Fin 16) (u : Route) : (s.setRoute r u).patch = s.patch := rfl

@[simp] theorem State.setRoute_links (s : State) (r : Fin 16) (u : Route) : (s.setRoute r u).links = s.links := rfl

@[simp] theorem State.setRoute_triggers (s : State) (r : Fin 16) (u : Route) :
    (s.setRoute r u).triggers = { s.triggers with routes := s.triggers.routes.set r u } := rfl

@[simp] theorem State.setRoute_processor (s : State) (r : Fin 16) (u : Route) : (s.setRoute r u).processor = s.processor := rfl

@[simp] theorem State.setRoute_reports (s : State) (r : Fin 16) (u : Route) : (s.setRoute r u).reports = s.reports := rfl

@[simp] theorem State.setRoute_showClock (s : State) (r : Fin 16) (u : Route) : (s.setRoute r u).showClock = s.showClock := rfl

@[simp] theorem State.setRoute_memory (s : State) (r : Fin 16) (u : Route) : (s.setRoute r u).memory = s.memory := rfl

@[simp] theorem State.setRoute_choices (s : State) (r : Fin 16) (u : Route) : (s.setRoute r u).choices = s.choices := rfl

@[simp] theorem State.setRoute_pending (s : State) (r : Fin 16) (u : Route) : (s.setRoute r u).pending = s.pending := rfl

@[simp] theorem State.setRoute_desk (s : State) (r : Fin 16) (u : Route) (d : Desk) : (s.setRoute r u).desk d = s.desk d := by
  cases d <;> rfl

/-! ### State.setHeld -/

@[simp] theorem State.setHeld_deskA (s : State) (u : List Held) : (s.setHeld u).deskA = s.deskA := rfl

@[simp] theorem State.setHeld_deskB (s : State) (u : List Held) : (s.setHeld u).deskB = s.deskB := rfl

@[simp] theorem State.setHeld_lists (s : State) (u : List Held) : (s.setHeld u).lists = s.lists := rfl

@[simp] theorem State.setHeld_playbacks (s : State) (u : List Held) : (s.setHeld u).playbacks = s.playbacks := rfl

@[simp] theorem State.setHeld_level (s : State) (u : List Held) :
    (s.setHeld u).level = { s.level with held := u } := rfl

@[simp] theorem State.setHeld_patch (s : State) (u : List Held) : (s.setHeld u).patch = s.patch := rfl

@[simp] theorem State.setHeld_links (s : State) (u : List Held) : (s.setHeld u).links = s.links := rfl

@[simp] theorem State.setHeld_triggers (s : State) (u : List Held) : (s.setHeld u).triggers = s.triggers := rfl

@[simp] theorem State.setHeld_processor (s : State) (u : List Held) : (s.setHeld u).processor = s.processor := rfl

@[simp] theorem State.setHeld_reports (s : State) (u : List Held) : (s.setHeld u).reports = s.reports := rfl

@[simp] theorem State.setHeld_showClock (s : State) (u : List Held) : (s.setHeld u).showClock = s.showClock := rfl

@[simp] theorem State.setHeld_memory (s : State) (u : List Held) : (s.setHeld u).memory = s.memory := rfl

@[simp] theorem State.setHeld_choices (s : State) (u : List Held) : (s.setHeld u).choices = s.choices := rfl

@[simp] theorem State.setHeld_pending (s : State) (u : List Held) : (s.setHeld u).pending = s.pending := rfl

@[simp] theorem State.setHeld_desk (s : State) (u : List Held) (d : Desk) : (s.setHeld u).desk d = s.desk d := by
  cases d <;> rfl

/-! ### State.setStaged -/

@[simp] theorem State.setStaged_deskA (s : State) (u : Option Staged) : (s.setStaged u).deskA = s.deskA := rfl

@[simp] theorem State.setStaged_deskB (s : State) (u : Option Staged) : (s.setStaged u).deskB = s.deskB := rfl

@[simp] theorem State.setStaged_lists (s : State) (u : Option Staged) : (s.setStaged u).lists = s.lists := rfl

@[simp] theorem State.setStaged_playbacks (s : State) (u : Option Staged) : (s.setStaged u).playbacks = s.playbacks := rfl

@[simp] theorem State.setStaged_level (s : State) (u : Option Staged) :
    (s.setStaged u).level = { s.level with staged := u } := rfl

@[simp] theorem State.setStaged_patch (s : State) (u : Option Staged) : (s.setStaged u).patch = s.patch := rfl

@[simp] theorem State.setStaged_links (s : State) (u : Option Staged) : (s.setStaged u).links = s.links := rfl

@[simp] theorem State.setStaged_triggers (s : State) (u : Option Staged) : (s.setStaged u).triggers = s.triggers := rfl

@[simp] theorem State.setStaged_processor (s : State) (u : Option Staged) : (s.setStaged u).processor = s.processor := rfl

@[simp] theorem State.setStaged_reports (s : State) (u : Option Staged) : (s.setStaged u).reports = s.reports := rfl

@[simp] theorem State.setStaged_showClock (s : State) (u : Option Staged) : (s.setStaged u).showClock = s.showClock := rfl

@[simp] theorem State.setStaged_memory (s : State) (u : Option Staged) : (s.setStaged u).memory = s.memory := rfl

@[simp] theorem State.setStaged_choices (s : State) (u : Option Staged) : (s.setStaged u).choices = s.choices := rfl

@[simp] theorem State.setStaged_pending (s : State) (u : Option Staged) : (s.setStaged u).pending = s.pending := rfl

@[simp] theorem State.setStaged_desk (s : State) (u : Option Staged) (d : Desk) : (s.setStaged u).desk d = s.desk d := by
  cases d <;> rfl

/-! ### State.setBlackout -/

@[simp] theorem State.setBlackout_deskA (s : State) (u : Bool) : (s.setBlackout u).deskA = s.deskA := rfl

@[simp] theorem State.setBlackout_deskB (s : State) (u : Bool) : (s.setBlackout u).deskB = s.deskB := rfl

@[simp] theorem State.setBlackout_lists (s : State) (u : Bool) : (s.setBlackout u).lists = s.lists := rfl

@[simp] theorem State.setBlackout_playbacks (s : State) (u : Bool) : (s.setBlackout u).playbacks = s.playbacks := rfl

@[simp] theorem State.setBlackout_level (s : State) (u : Bool) :
    (s.setBlackout u).level = { s.level with blackout := u } := rfl

@[simp] theorem State.setBlackout_patch (s : State) (u : Bool) : (s.setBlackout u).patch = s.patch := rfl

@[simp] theorem State.setBlackout_links (s : State) (u : Bool) : (s.setBlackout u).links = s.links := rfl

@[simp] theorem State.setBlackout_triggers (s : State) (u : Bool) : (s.setBlackout u).triggers = s.triggers := rfl

@[simp] theorem State.setBlackout_processor (s : State) (u : Bool) : (s.setBlackout u).processor = s.processor := rfl

@[simp] theorem State.setBlackout_reports (s : State) (u : Bool) : (s.setBlackout u).reports = s.reports := rfl

@[simp] theorem State.setBlackout_showClock (s : State) (u : Bool) : (s.setBlackout u).showClock = s.showClock := rfl

@[simp] theorem State.setBlackout_memory (s : State) (u : Bool) : (s.setBlackout u).memory = s.memory := rfl

@[simp] theorem State.setBlackout_choices (s : State) (u : Bool) : (s.setBlackout u).choices = s.choices := rfl

@[simp] theorem State.setBlackout_pending (s : State) (u : Bool) : (s.setBlackout u).pending = s.pending := rfl

@[simp] theorem State.setBlackout_desk (s : State) (u : Bool) (d : Desk) : (s.setBlackout u).desk d = s.desk d := by
  cases d <;> rfl

/-! ### State.setSwitches -/

@[simp] theorem State.setSwitches_deskA (s : State) (u : Table Bool 1536) : (s.setSwitches u).deskA = s.deskA := rfl

@[simp] theorem State.setSwitches_deskB (s : State) (u : Table Bool 1536) : (s.setSwitches u).deskB = s.deskB := rfl

@[simp] theorem State.setSwitches_lists (s : State) (u : Table Bool 1536) : (s.setSwitches u).lists = s.lists := rfl

@[simp] theorem State.setSwitches_playbacks (s : State) (u : Table Bool 1536) : (s.setSwitches u).playbacks = s.playbacks := rfl

@[simp] theorem State.setSwitches_level (s : State) (u : Table Bool 1536) : (s.setSwitches u).level = s.level := rfl

@[simp] theorem State.setSwitches_patch (s : State) (u : Table Bool 1536) :
    (s.setSwitches u).patch = { s.patch with switches := u } := rfl

@[simp] theorem State.setSwitches_links (s : State) (u : Table Bool 1536) : (s.setSwitches u).links = s.links := rfl

@[simp] theorem State.setSwitches_triggers (s : State) (u : Table Bool 1536) : (s.setSwitches u).triggers = s.triggers := rfl

@[simp] theorem State.setSwitches_processor (s : State) (u : Table Bool 1536) : (s.setSwitches u).processor = s.processor := rfl

@[simp] theorem State.setSwitches_reports (s : State) (u : Table Bool 1536) : (s.setSwitches u).reports = s.reports := rfl

@[simp] theorem State.setSwitches_showClock (s : State) (u : Table Bool 1536) : (s.setSwitches u).showClock = s.showClock := rfl

@[simp] theorem State.setSwitches_memory (s : State) (u : Table Bool 1536) : (s.setSwitches u).memory = s.memory := rfl

@[simp] theorem State.setSwitches_choices (s : State) (u : Table Bool 1536) : (s.setSwitches u).choices = s.choices := rfl

@[simp] theorem State.setSwitches_pending (s : State) (u : Table Bool 1536) : (s.setSwitches u).pending = s.pending := rfl

@[simp] theorem State.setSwitches_desk (s : State) (u : Table Bool 1536) (d : Desk) : (s.setSwitches u).desk d = s.desk d := by
  cases d <;> rfl

/-! ### State.setParks -/

@[simp] theorem State.setParks_deskA (s : State) (u : List Park) : (s.setParks u).deskA = s.deskA := rfl

@[simp] theorem State.setParks_deskB (s : State) (u : List Park) : (s.setParks u).deskB = s.deskB := rfl

@[simp] theorem State.setParks_lists (s : State) (u : List Park) : (s.setParks u).lists = s.lists := rfl

@[simp] theorem State.setParks_playbacks (s : State) (u : List Park) : (s.setParks u).playbacks = s.playbacks := rfl

@[simp] theorem State.setParks_level (s : State) (u : List Park) : (s.setParks u).level = s.level := rfl

@[simp] theorem State.setParks_patch (s : State) (u : List Park) :
    (s.setParks u).patch = { s.patch with parks := u } := rfl

@[simp] theorem State.setParks_links (s : State) (u : List Park) : (s.setParks u).links = s.links := rfl

@[simp] theorem State.setParks_triggers (s : State) (u : List Park) : (s.setParks u).triggers = s.triggers := rfl

@[simp] theorem State.setParks_processor (s : State) (u : List Park) : (s.setParks u).processor = s.processor := rfl

@[simp] theorem State.setParks_reports (s : State) (u : List Park) : (s.setParks u).reports = s.reports := rfl

@[simp] theorem State.setParks_showClock (s : State) (u : List Park) : (s.setParks u).showClock = s.showClock := rfl

@[simp] theorem State.setParks_memory (s : State) (u : List Park) : (s.setParks u).memory = s.memory := rfl

@[simp] theorem State.setParks_choices (s : State) (u : List Park) : (s.setParks u).choices = s.choices := rfl

@[simp] theorem State.setParks_pending (s : State) (u : List Park) : (s.setParks u).pending = s.pending := rfl

@[simp] theorem State.setParks_desk (s : State) (u : List Park) (d : Desk) : (s.setParks u).desk d = s.desk d := by
  cases d <;> rfl

/-! ### State.setProcessor -/

@[simp] theorem State.setProcessor_deskA (s : State) (u : ProcessorState) : (s.setProcessor u).deskA = s.deskA := rfl

@[simp] theorem State.setProcessor_deskB (s : State) (u : ProcessorState) : (s.setProcessor u).deskB = s.deskB := rfl

@[simp] theorem State.setProcessor_lists (s : State) (u : ProcessorState) : (s.setProcessor u).lists = s.lists := rfl

@[simp] theorem State.setProcessor_playbacks (s : State) (u : ProcessorState) : (s.setProcessor u).playbacks = s.playbacks := rfl

@[simp] theorem State.setProcessor_level (s : State) (u : ProcessorState) : (s.setProcessor u).level = s.level := rfl

@[simp] theorem State.setProcessor_patch (s : State) (u : ProcessorState) : (s.setProcessor u).patch = s.patch := rfl

@[simp] theorem State.setProcessor_links (s : State) (u : ProcessorState) : (s.setProcessor u).links = s.links := rfl

@[simp] theorem State.setProcessor_triggers (s : State) (u : ProcessorState) : (s.setProcessor u).triggers = s.triggers := rfl

@[simp] theorem State.setProcessor_processor (s : State) (u : ProcessorState) :
    (s.setProcessor u).processor = { s.processor with state := u } := rfl

@[simp] theorem State.setProcessor_reports (s : State) (u : ProcessorState) : (s.setProcessor u).reports = s.reports := rfl

@[simp] theorem State.setProcessor_showClock (s : State) (u : ProcessorState) : (s.setProcessor u).showClock = s.showClock := rfl

@[simp] theorem State.setProcessor_memory (s : State) (u : ProcessorState) : (s.setProcessor u).memory = s.memory := rfl

@[simp] theorem State.setProcessor_choices (s : State) (u : ProcessorState) : (s.setProcessor u).choices = s.choices := rfl

@[simp] theorem State.setProcessor_pending (s : State) (u : ProcessorState) : (s.setProcessor u).pending = s.pending := rfl

@[simp] theorem State.setProcessor_desk (s : State) (u : ProcessorState) (d : Desk) : (s.setProcessor u).desk d = s.desk d := by
  cases d <;> rfl

/-! ### State.report -/

@[simp] theorem State.report_deskA (e : Event) (s : State) : (s.report e).deskA = s.deskA := rfl

@[simp] theorem State.report_deskB (e : Event) (s : State) : (s.report e).deskB = s.deskB := rfl

@[simp] theorem State.report_lists (e : Event) (s : State) : (s.report e).lists = s.lists := rfl

@[simp] theorem State.report_playbacks (e : Event) (s : State) : (s.report e).playbacks = s.playbacks := rfl

@[simp] theorem State.report_level (e : Event) (s : State) : (s.report e).level = s.level := rfl

@[simp] theorem State.report_patch (e : Event) (s : State) : (s.report e).patch = s.patch := rfl

@[simp] theorem State.report_links (e : Event) (s : State) : (s.report e).links = s.links := rfl

@[simp] theorem State.report_triggers (e : Event) (s : State) : (s.report e).triggers = s.triggers := rfl

@[simp] theorem State.report_processor (e : Event) (s : State) : (s.report e).processor = s.processor := rfl

@[simp] theorem State.report_reports (e : Event) (s : State) :
    (s.report e).reports = s.reports.take e s.showClock := rfl

@[simp] theorem State.report_showClock (e : Event) (s : State) : (s.report e).showClock = s.showClock := rfl

@[simp] theorem State.report_memory (e : Event) (s : State) : (s.report e).memory = s.memory := rfl

@[simp] theorem State.report_choices (e : Event) (s : State) : (s.report e).choices = s.choices := rfl

@[simp] theorem State.report_pending (e : Event) (s : State) : (s.report e).pending = s.pending := rfl

@[simp] theorem State.report_desk (e : Event) (s : State) (d : Desk) : (s.report e).desk d = s.desk d := by
  cases d <;> rfl

end Sys2Proof.Machine
end

