-- ==== Sys2Proof/Laws/Events.lean ====
section
/-! SUPPORT. What raising an event can do: the induction over a chain of tasks, said once, and the parts of
the state that no event touches (R143, R144, R164). -/

namespace Sys2Proof.Machine

/-! ### Induction over a chain of tasks -/

/-- A predicate kept by one route's firing is kept by an event offered to the whole route table. -/
theorem offer_keeps {P : State → Prop} {raise : Event → State → State} {e : Event}
    (route : ∀ r s, P s → P (offerRoute raise e s r)) {s : State} (h : P s) : P (offer raise e s) := by
  unfold offer
  generalize List.finRange 16 = rs
  induction rs generalizing s with
  | nil => exact h
  | cons r rest ih => exact ih (route r s h)

/-- What an event offered to one route can do: nothing, TASK REFUSED, or the task issued with the mark set. -/
theorem offerRoute_cases (raise : Event → State → State) (e : Event) (s : State) (r : Fin 16) :
    offerRoute raise e s r = s ∨
    offerRoute raise e s r = s.taskRefused r .holdoff ∨
    ((s.triggers.routes.get r).holdoff = false ∧
      offerRoute raise e s r = issueTask raise r (s.triggers.routes.get r).task
        (s.setRoute r { s.triggers.routes.get r with holdoff := true })) := by
  unfold offerRoute
  simp only
  split
  · split
    · exact .inr (.inl rfl)
    · rename_i h
      exact .inr (.inr ⟨by simpa using h, rfl⟩)
  · exact .inl rfl

/-- A predicate kept by a report and by a task issued with its route's mark set is kept by an event, with
every chain of tasks that the event sets off. -/
theorem raiseWithin_keeps {P : State → Prop} (report : ∀ e s, P s → P (s.report e))
    (issue : ∀ raise : Event → State → State, (∀ e s, P s → P (raise e s)) → ∀ r s, P s →
      (s.triggers.routes.get r).holdoff = false →
      P (issueTask raise r (s.triggers.routes.get r).task
        (s.setRoute r { s.triggers.routes.get r with holdoff := true })))
    (n : Nat) : ∀ (e : Event) (s : State), P s → P (raiseWithin n e s) := by
  induction n with
  | zero => exact report
  | succ n ih =>
    intro e s h
    unfold raiseWithin
    split
    · refine offer_keeps (fun r s h => ?_) (report e s h)
      obtain h' | h' | ⟨hm, h'⟩ := offerRoute_cases (raiseWithin n) e s r <;> rw [h']
      · exact h
      · exact report _ s h
      · exact issue _ ih r s h hm
    · exact report e s h

/-- A predicate kept by `raise` is kept by events raised one after another. -/
theorem raiseAll_keeps {P : State → Prop} {raise : Event → State → State}
    (one : ∀ e s, P s → P (raise e s)) (es : List Event) {s : State} (h : P s) :
    P (raiseAll raise es s) := by
  unfold raiseAll
  induction es generalizing s with
  | nil => exact h
  | cons e rest ih => exact ih (one e s h)

/-! ### What a task can do -/

/-- A playback request as a task: the playback replaced and events raised, or nothing but a report. -/
theorem goPlayback_cases (raise : Event → State → State) (p : Fin 6) (s : State) :
    (∃ x, goPlayback raise p s = (s, x)) ∨
    ∃ m x, goPlayback raise p s = (applyMoved raise p m s, x) := by
  unfold goPlayback
  simp only
  split
  · exact .inl ⟨_, rfl⟩
  · exact .inr ⟨_, _, rfl⟩

theorem gotoPlayback_cases (raise : Event → State → State) (p : Fin 6) (cue ovr : Half) (s : State) :
    (∃ x, gotoPlayback raise p cue ovr s = (s, x)) ∨
    ∃ m x, gotoPlayback raise p cue ovr s = (applyMoved raise p m s, x) := by
  unfold gotoPlayback
  simp only
  (repeat' split) <;> first | exact .inl ⟨_, rfl⟩ | exact .inr ⟨_, _, rfl⟩

theorem backPlayback_cases (raise : Event → State → State) (p : Fin 6) (s : State) :
    (∃ x, backPlayback raise p s = (s, x)) ∨
    ∃ m x, backPlayback raise p s = (applyMoved raise p m s, x) := by
  unfold backPlayback
  simp only
  split
  · exact .inl ⟨_, rfl⟩
  · split
    · exact .inl ⟨_, rfl⟩
    · exact .inr ⟨_, _, rfl⟩

theorem pausePlayback_cases (p : Fin 6) (s : State) :
    (∃ x, pausePlayback p s = (s, x)) ∨ ∃ pb x, pausePlayback p s = (s.setPlayback p pb, x) := by
  unfold pausePlayback
  simp only
  split
  · exact .inr ⟨_, _, rfl⟩
  · exact .inl ⟨_, rfl⟩

theorem resumePlayback_cases (p : Fin 6) (s : State) :
    (∃ x, resumePlayback p s = (s, x)) ∨ ∃ pb x, resumePlayback p s = (s.setPlayback p pb, x) := by
  unfold resumePlayback
  simp only
  split
  · exact .inr ⟨_, _, rfl⟩
  · exact .inl ⟨_, rfl⟩

theorem releasePlayback_cases (p : Fin 6) (s : State) :
    (∃ x, releasePlayback p s = (s, x)) ∨ ∃ pb x, releasePlayback p s = (s.setPlayback p pb, x) := by
  unfold releasePlayback
  simp only
  split
  · exact .inl ⟨_, rfl⟩
  · exact .inr ⟨_, _, rfl⟩

/-- The only change of a GO to a staged swap is its due mark. -/
theorem goTaken_cases (p : Fin 6) (s : State) :
    s.goTaken p = s ∨ ∃ x, s.level.staged = some x ∧ s.goTaken p = s.setStaged (some { x with due := true }) := by
  unfold State.goTaken
  split
  · split
    · exact .inr ⟨_, by assumption, rfl⟩
    · exact .inl rfl
  · exact .inl rfl

/-! ### What no event touches -/

/-- Two states that differ at most in what an event can change: the playbacks, the staged swap, the blackout
and the held-request list, the cue clocks, the holdoff marks, and the queue and flags of the report unit. -/
structure SameButEvents (s t : State) : Prop where
  deskA : t.deskA = s.deskA
  deskB : t.deskB = s.deskB
  lists : t.lists = s.lists
  patch : t.patch = s.patch
  links : t.links = s.links
  processor : t.processor = s.processor
  showClock : t.showClock = s.showClock
  memory : t.memory = s.memory
  choices : t.choices = s.choices
  pending : t.pending = s.pending
  contacts : t.triggers.contacts = s.triggers.contacts
  watches : t.triggers.watches = s.triggers.watches
  routes : ∀ r, ∃ mark, t.triggers.routes.get r = { s.triggers.routes.get r with holdoff := mark }
  mask : t.reports.mask = s.reports.mask
  level : ∃ staged held on,
    t.level = { s.level with staged := staged, held := held, blackout := on }

theorem SameButEvents.rfl (s : State) : SameButEvents s s :=
  ⟨.refl _, .refl _, .refl _, .refl _, .refl _, .refl _, .refl _, .refl _, .refl _, .refl _, .refl _, .refl _,
    fun _ => ⟨_, .refl _⟩, .refl _, ⟨_, _, _, .refl _⟩⟩

theorem SameButEvents.trans {s t u : State} (h : SameButEvents s t) (k : SameButEvents t u) :
    SameButEvents s u where
  deskA := k.deskA.trans h.deskA
  deskB := k.deskB.trans h.deskB
  lists := k.lists.trans h.lists
  patch := k.patch.trans h.patch
  links := k.links.trans h.links
  processor := k.processor.trans h.processor
  showClock := k.showClock.trans h.showClock
  memory := k.memory.trans h.memory
  choices := k.choices.trans h.choices
  pending := k.pending.trans h.pending
  contacts := k.contacts.trans h.contacts
  watches := k.watches.trans h.watches
  routes r := by
    obtain ⟨a, ha⟩ := h.routes r
    obtain ⟨b, hb⟩ := k.routes r
    exact ⟨b, by rw [hb, ha]⟩
  mask := k.mask.trans h.mask
  level := by
    obtain ⟨_, _, _, ha⟩ := h.level
    obtain ⟨_, _, _, hb⟩ := k.level
    exact ⟨_, _, _, by rw [hb, ha]⟩

theorem Reports.take_mask (r : Reports) (e : Event) (now : Time) : (r.take e now).mask = r.mask := by
  unfold Reports.take Reports.append
  simp only
  split
  · split <;> rfl
  · rfl

theorem SameButEvents.report (e : Event) (s : State) : SameButEvents s (s.report e) :=
  { SameButEvents.rfl s with mask := Reports.take_mask .. }

theorem SameButEvents.setPlayback (s : State) (p : Fin 6) (pb : Playback) :
    SameButEvents s (s.setPlayback p pb) :=
  { SameButEvents.rfl s with }

theorem SameButEvents.setStaged (s : State) (x : Option Staged) : SameButEvents s (s.setStaged x) :=
  { SameButEvents.rfl s with level := ⟨x, _, _, .refl _⟩ }

theorem SameButEvents.setHeld (s : State) (x : List Held) : SameButEvents s (s.setHeld x) :=
  { SameButEvents.rfl s with level := ⟨_, x, _, .refl _⟩ }

theorem SameButEvents.setBlackout (s : State) (on : Bool) : SameButEvents s (s.setBlackout on) :=
  { SameButEvents.rfl s with level := ⟨_, _, on, .refl _⟩ }

theorem SameButEvents.setClock (s : State) (c : Fin 3) (x : CueClock) : SameButEvents s (s.setClock c x) :=
  { SameButEvents.rfl s with }

theorem SameButEvents.mark (s : State) (r : Fin 16) (mark : Bool) :
    SameButEvents s (s.setRoute r { s.triggers.routes.get r with holdoff := mark }) where
  __ := SameButEvents.rfl s
  routes x := by
    simp only [State.setRoute, Table.get_set]
    split
    · subst_vars; exact ⟨mark, .refl _⟩
    · exact ⟨_, .refl _⟩

theorem SameButEvents.goTaken (s : State) (p : Fin 6) : SameButEvents s (s.goTaken p) := by
  obtain h | ⟨x, -, h⟩ := goTaken_cases p s <;> rw [h]
  · exact .rfl s
  · exact .setStaged s _

theorem SameButEvents.applyMoved {raise : Event → State → State} (hr : ∀ e s, SameButEvents s (raise e s))
    (p : Fin 6) (m : Moved) (s : State) : SameButEvents s (applyMoved raise p m s) := by
  unfold Machine.applyMoved
  refine raiseAll_keeps (P := SameButEvents s) (fun e t h => h.trans (hr e t)) m.events ?_
  split
  · exact (SameButEvents.setPlayback s p _).trans (.goTaken _ p)
  · exact .setPlayback s p _

theorem SameButEvents.taskTaken {s : State} (r : Fin 16) {x : State × Result} (h : SameButEvents s x.1) :
    SameButEvents s (taskTaken r x) := by
  unfold Machine.taskTaken
  split
  · exact h.trans (.report _ _)
  · exact h

theorem SameButEvents.takeTask {raise : Event → State → State} (hr : ∀ e s, SameButEvents s (raise e s))
    (r : Fin 16) (t : Task) (s : State) : SameButEvents s (takeTask raise r t s) := by
  have clock : ∀ c a, SameButEvents s (clockTask r c a s) := by
    intro c a
    unfold clockTask
    split
    · exact .setClock s c _
    · exact .report _ s
  match t with
  | .go p =>
    refine .taskTaken r ?_
    obtain ⟨x, h⟩ | ⟨m, x, h⟩ := goPlayback_cases raise p s <;> rw [h]
    · exact .rfl s
    · exact .applyMoved hr p m s
  | .pause p =>
    refine .taskTaken r ?_
    obtain ⟨x, h⟩ | ⟨pb, x, h⟩ := pausePlayback_cases p s <;> rw [h]
    · exact .rfl s
    · exact .setPlayback s p pb
  | .resume p =>
    refine .taskTaken r ?_
    obtain ⟨x, h⟩ | ⟨pb, x, h⟩ := resumePlayback_cases p s <;> rw [h]
    · exact .rfl s
    · exact .setPlayback s p pb
  | .release p =>
    refine .taskTaken r ?_
    obtain ⟨x, h⟩ | ⟨pb, x, h⟩ := releasePlayback_cases p s <;> rw [h]
    · exact .rfl s
    · exact .setPlayback s p pb
  | .start c => exact clock c .start
  | .continue c => exact clock c .continue
  | .stop c => exact clock c .stop
  | .stopAtMatch c => exact clock c .stopAtMatch
  | .blackoutOn => exact .setBlackout s true
  | .blackoutOff => exact .setBlackout s false
  | .swapNow =>
    simp only [Machine.takeTask, swapNow]
    split
    · exact .setStaged s _
    · exact .report _ s

theorem SameButEvents.issueTask {raise : Event → State → State} (hr : ∀ e s, SameButEvents s (raise e s))
    (r : Fin 16) (t : Task) (s : State) : SameButEvents s (issueTask raise r t s) := by
  unfold Machine.issueTask
  split
  · exact .setHeld s _
  · exact .takeTask hr r t s

/-- The frame of an event: a raised event, with all that it sets off, leaves these parts as they were. -/
theorem SameButEvents.raiseWithin (n : Nat) (e : Event) (s : State) :
    SameButEvents s (raiseWithin n e s) := by
  induction n generalizing e s with
  | zero => exact .report e s
  | succ n ih =>
    unfold Machine.raiseWithin
    split
    · refine offer_keeps (P := SameButEvents s) (fun r t h => ?_) (.report e s)
      obtain h' | h' | ⟨-, h'⟩ := offerRoute_cases (Machine.raiseWithin n) e t r <;> rw [h']
      · exact h
      · exact h.trans (.report _ t)
      · exact h.trans ((SameButEvents.mark t r true).trans (.issueTask ih r _ _))
    · exact .report e s

theorem SameButEvents.raiseEvent (e : Event) (s : State) : SameButEvents s (raiseEvent e s) :=
  .raiseWithin _ e s

theorem SameButEvents.raiseAll (es : List Event) (s : State) :
    SameButEvents s (raiseAll Machine.raiseEvent es s) :=
  raiseAll_keeps (P := SameButEvents s) (fun e t h => h.trans (.raiseEvent e t)) es (.rfl s)

/-! ### Fields of a state after an event -/

@[simp] theorem raiseEvent_lists (e : Event) (s : State) : (raiseEvent e s).lists = s.lists :=
  (SameButEvents.raiseEvent e s).lists

@[simp] theorem raiseEvent_patch (e : Event) (s : State) : (raiseEvent e s).patch = s.patch :=
  (SameButEvents.raiseEvent e s).patch

@[simp] theorem raiseEvent_links (e : Event) (s : State) : (raiseEvent e s).links = s.links :=
  (SameButEvents.raiseEvent e s).links

@[simp] theorem raiseEvent_processor (e : Event) (s : State) : (raiseEvent e s).processor = s.processor :=
  (SameButEvents.raiseEvent e s).processor

@[simp] theorem raiseEvent_showClock (e : Event) (s : State) : (raiseEvent e s).showClock = s.showClock :=
  (SameButEvents.raiseEvent e s).showClock

@[simp] theorem raiseEvent_memory (e : Event) (s : State) : (raiseEvent e s).memory = s.memory :=
  (SameButEvents.raiseEvent e s).memory

@[simp] theorem raiseEvent_choices (e : Event) (s : State) : (raiseEvent e s).choices = s.choices :=
  (SameButEvents.raiseEvent e s).choices

@[simp] theorem raiseEvent_pending (e : Event) (s : State) : (raiseEvent e s).pending = s.pending :=
  (SameButEvents.raiseEvent e s).pending

@[simp] theorem raiseEvent_desk (e : Event) (s : State) (d : Desk) : (raiseEvent e s).desk d = s.desk d := by
  cases d
  · exact (SameButEvents.raiseEvent e s).deskA
  · exact (SameButEvents.raiseEvent e s).deskB

end Sys2Proof.Machine
end

