-- ==== Sys2Proof/Laws/Requests.lean ====
section
/-! SUPPORT. The path of a request, said once: a request row is an arrival, no owner touches the command
buffers, the reply lists or the processor, and a request that is taken at once is answered by its owner. -/

namespace Sys2Proof.Machine

/-- A request row is the arrival of its request. -/
theorem exec_request {i : Instr} {d : Desk} {tag : Byte} {r : Request} (h : i.request = some (d, tag, r))
    (s : State) : exec i s = .next (requestArrives d tag r s) := by
  cases i <;> cases h <;> rfl

/-! ### Events and the ports -/

@[simp] theorem raiseAll_desk (es : List Event) (s : State) (d : Desk) :
    (raiseAll raiseEvent es s).desk d = s.desk d := by
  cases d
  · exact (SameButEvents.raiseAll es s).deskA
  · exact (SameButEvents.raiseAll es s).deskB

@[simp] theorem raiseAll_processor (es : List Event) (s : State) :
    (raiseAll raiseEvent es s).processor = s.processor :=
  (SameButEvents.raiseAll es s).processor

@[simp] theorem goTaken_desk (p : Fin 6) (s : State) (d : Desk) : (s.goTaken p).desk d = s.desk d := by
  obtain h | ⟨x, -, h⟩ := goTaken_cases p s <;> rw [h]
  cases d <;> rfl

@[simp] theorem goTaken_processor (p : Fin 6) (s : State) : (s.goTaken p).processor = s.processor :=
  (SameButEvents.goTaken s p).processor

@[simp] theorem applyMoved_desk (p : Fin 6) (m : Moved) (s : State) (d : Desk) :
    (applyMoved raiseEvent p m s).desk d = s.desk d := by
  unfold applyMoved
  simp only [raiseAll_desk]
  split
  · rw [goTaken_desk]; cases d <;> rfl
  · cases d <;> rfl

@[simp] theorem applyMoved_processor (p : Fin 6) (m : Moved) (s : State) :
    (applyMoved raiseEvent p m s).processor = s.processor :=
  (SameButEvents.applyMoved (fun e s => .raiseEvent e s) p m s).processor

/-! ### No owner touches the command processor -/

/-- The command processor's part of two states is the same: both ports and the processor. -/
structure SamePorts (s t : State) : Prop where
  ports : ∀ d, (t.desk d).port = (s.desk d).port
  processor : t.processor = s.processor

theorem SamePorts.rfl (s : State) : SamePorts s s := ⟨fun _ => .refl _, .refl _⟩

theorem SamePorts.trans {s t u : State} (h : SamePorts s t) (k : SamePorts t u) : SamePorts s u :=
  ⟨fun d => (k.ports d).trans (h.ports d), k.processor.trans h.processor⟩

theorem SamePorts.of_desks {s t : State} (a : t.deskA = s.deskA) (b : t.deskB = s.deskB)
    (p : t.processor = s.processor) : SamePorts s t :=
  ⟨fun d => by cases d <;> simp [State.desk, a, b], p⟩

theorem SameButEvents.samePorts {s t : State} (h : SameButEvents s t) : SamePorts s t :=
  .of_desks h.deskA h.deskB h.processor

theorem SamePorts.setMonitor (s : State) (d : Desk) (m : Monitor) : SamePorts s (s.setMonitor d m) :=
  ⟨fun x => by simp, by simp⟩

theorem SamePorts.setReceiver (s : State) (d : Desk) (r : Receiver) : SamePorts s (s.setReceiver d r) :=
  ⟨fun x => by simp, by simp⟩

theorem SamePorts.checkTimeout (d : Desk) (s : State) : SamePorts s (checkTimeout d s) := by
  unfold Machine.checkTimeout
  simp only
  split
  · exact (SamePorts.setMonitor s d _).trans (SameButEvents.raiseEvent _ _).samePorts
  · exact .rfl s

theorem SamePorts.setContact (s : State) (c : Fin 4) (x : Contact) : SamePorts s (s.setContact c x) :=
  .of_desks (.refl _) (.refl _) (.refl _)

theorem SamePorts.acceptContact (c : Fin 4) (s : State) : SamePorts s (acceptContact c s) := by
  unfold Machine.acceptContact
  simp only
  split
  · exact (SamePorts.setContact s c _).trans (SameButEvents.raiseEvent _ _).samePorts
  · exact .setContact s c _

theorem SamePorts.debounceEnd (c : Fin 4) (s : State) : SamePorts s (debounceEnd c s) := by
  unfold Machine.debounceEnd
  split
  · exact .acceptContact c s
  · exact .rfl s

theorem SamePorts.playbackRequest {n : Byte} {s : State} {take : Fin 6 → State × Result}
    (h : ∀ p, SamePorts s (take p).1) : SamePorts s (playbackRequest n s take).state := by
  unfold Machine.playbackRequest
  split
  · exact .rfl s
  · exact h _

theorem SamePorts.applyMoved (p : Fin 6) (m : Moved) (s : State) :
    SamePorts s (applyMoved raiseEvent p m s) :=
  (SameButEvents.applyMoved (fun e s => .raiseEvent e s) p m s).samePorts

theorem SamePorts.setPlayback (s : State) (p : Fin 6) (pb : Playback) :
    SamePorts s (s.setPlayback p pb) :=
  .of_desks (.refl _) (.refl _) (.refl _)

/-- The owner of a request leaves the command buffers, the reply lists and the processor as they are. -/
theorem perform_samePorts (r : Request) (s : State) : SamePorts s (perform r s).state := by
  have same : ∀ {t : State}, t.deskA = s.deskA → t.deskB = s.deskB → t.processor = s.processor →
      SamePorts s t := SamePorts.of_desks
  cases r with
  | go p =>
    refine .playbackRequest fun p => ?_
    obtain ⟨x, h⟩ | ⟨m, x, h⟩ := goPlayback_cases raiseEvent p s <;> rw [h]
    · exact .rfl s
    · exact .applyMoved p m s
  | goto p cue ovr =>
    refine .playbackRequest fun p => ?_
    obtain ⟨x, h⟩ | ⟨m, x, h⟩ := gotoPlayback_cases raiseEvent p cue ovr s <;> rw [h]
    · exact .rfl s
    · exact .applyMoved p m s
  | back p =>
    refine .playbackRequest fun p => ?_
    obtain ⟨x, h⟩ | ⟨m, x, h⟩ := backPlayback_cases raiseEvent p s <;> rw [h]
    · exact .rfl s
    · exact .applyMoved p m s
  | pause p =>
    refine .playbackRequest fun p => ?_
    obtain ⟨x, h⟩ | ⟨pb, x, h⟩ := pausePlayback_cases p s <;> rw [h]
    · exact .rfl s
    · exact .setPlayback s p pb
  | resume p =>
    refine .playbackRequest fun p => ?_
    obtain ⟨x, h⟩ | ⟨pb, x, h⟩ := resumePlayback_cases p s <;> rw [h]
    · exact .rfl s
    · exact .setPlayback s p pb
  | release p =>
    refine .playbackRequest fun p => ?_
    obtain ⟨x, h⟩ | ⟨pb, x, h⟩ := releasePlayback_cases p s <;> rw [h]
    · exact .rfl s
    · exact .setPlayback s p pb
  | loadList p l =>
    refine .playbackRequest fun p => ?_
    simp only [loadListPlayback]
    (repeat' split) <;> first | exact .rfl s | exact .setPlayback s p _
  | unload p =>
    refine .playbackRequest fun p => ?_
    simp only [unloadPlayback]
    (repeat' split) <;> first | exact .rfl s | exact .setPlayback s p _
  | setMaster p m => exact .playbackRequest fun p => .setPlayback s p _
  | setRate p x =>
    simp only [perform, ownerSetRate]
    split
    · exact .rfl s
    · exact .setPlayback s _ _
  | setPlaybackTimes p x y =>
    refine .playbackRequest fun p => ?_
    simp only [setTimesPlayback]
    split
    · exact .rfl s
    · exact .setPlayback s p _
  | setDesk d t act fade mrg rts =>
    simp only [perform, ownerSetDesk]
    (repeat' split) <;>
      first | exact .rfl s | exact (SamePorts.setMonitor s _ _).trans (.checkTimeout _ _)
  | setContact c e t =>
    simp only [perform, ownerSetContact]
    (repeat' split) <;>
      first
        | exact .rfl s
        | exact (SamePorts.setContact s _ _).trans (.debounceEnd _ _)
        | exact .setContact s _ _
  | readDesk d c =>
    simp only [perform, ownerReadDesk]
    (repeat' split) <;> first | exact .rfl s | exact .setReceiver s _ _
  | _ =>
    simp only [perform, ownerWriteCue, writeCheckedCue, ownerDeleteCue, ownerClearList, ownerSetCircuit,
      ownerCopyBank, ownerClearBank, ownerSelectBank, ownerCancelSwap, ownerLoadLaw, ownerPark, ownerUnpark,
      ownerUnparkAll, ownerSetGrandMaster, ownerBlackout, ownerSetScan, ownerSetLink, ownerSetClock,
      ownerClockAction, ownerSetWatch, ownerSetRoute, ownerTakeReports, ownerSetReportMask, ownerClearFlags,
      ownerStore, ownerReadStatus, ownerReadPlayback, ownerReadChannel, ownerReadCircuit, ownerReadCue,
      ownerReadBankEntry, ownerReadLaw, ownerReadTriggers, refuse]
    (repeat' split) <;> exact same (.refl _) (.refl _) (.refl _)

/-! ### A request taken at once -/

/-- The data that a reply carries with an outcome (R157). -/
def replyData (x : Result) (data : List Byte) : List Byte := if x = .done ∨ x = .started then data else []

/-- The state in which `answer` leaves the part, when the owner has kept the arbiter's mark. -/
theorem answer_eq_answeredAs {d : Desk} {c : Command} {a : Answer} (h : a.state.processor.served = d) :
    answer d c a = answeredAs d c a.result (replyData a.result a.data) a.state := by
  subst h
  unfold answer answeredAs addReply replyData
  generalize a.state = u
  rcases u with ⟨da, db, _, _, _, _, _, _, ⟨p, d⟩, _, _, _, _, _⟩
  cases d <;> rfl

/-- The state after a final reply holds nothing that the processor could take next. -/
theorem nextCommand_answer {d : Desk} {c : Command} {a : Answer} (h : a.state.processor.served = d)
    (other : (a.state.desk d.other).port.buffer.waitingCommand = none) :
    nextCommand (answer d c a) = none := by
  rw [answer_eq_answeredAs h]
  unfold nextCommand answeredAs
  simp only
  cases d <;> simp_all [State.desk, State.setPort, State.setDesk, Desk.other, Buffer.waitingCommand]

/-- A waiting command is taken, and nothing after it, when what it leaves holds no command to take. -/
theorem arbitrate_one {d : Desk} {c : Command} {s : State} (h : nextCommand s = some (d, c))
    (after : nextCommand (takeCommand d c s) = none) : arbitrate s = takeCommand d c s := by
  simp only [arbitrate, arbitrateWithin, h, after]

/-- The command of a free desk is taken the moment it arrives. -/
theorem nextCommand_arrival {d : Desk} {c : Command} {s : State} (h : Free d s) :
    nextCommand (s.setBuffer d (.waiting c)) = some (d, c) := by
  obtain ⟨-, idle, alone⟩ := h
  rcases s with ⟨da, db, _, _, _, _, _, _, ⟨p, x⟩, _, _, _, _, _⟩
  subst idle
  cases d <;> cases x <;>
    simp_all [nextCommand, State.setBuffer, State.setPort, State.setDesk, State.desk, Desk.other,
      Buffer.waitingCommand]

/-- The state in which a command is taken, from the moment it arrives. -/
theorem beginCommand_arrival (d : Desk) (c : Command) (s : State) :
    beginCommand d c (s.setBuffer d (.waiting c)) = begunAs d c s := by
  cases d <;> rfl

@[simp] theorem begunAs_permits (d x : Desk) (c : Command) (code : Byte) (s : State) :
    (begunAs d c s).permits x code = s.permits x code := by
  cases d <;> cases x <;> rfl

@[simp] theorem begunAs_memory (d : Desk) (c : Command) (s : State) : (begunAs d c s).memory = s.memory := by
  cases d <;> rfl

@[simp] theorem begunAs_level (d : Desk) (c : Command) (s : State) : (begunAs d c s).level = s.level := by
  cases d <;> rfl

@[simp] theorem begunAs_isHeld (d : Desk) (c : Command) (r : Request) (s : State) :
    r.isHeld (begunAs d c s) = r.isHeld s := by
  cases r <;> simp [Request.isHeld]

@[simp] theorem begunAs_other (d : Desk) (c : Command) (s : State) :
    (begunAs d c s).desk d.other = s.desk d.other := by
  cases d <;> rfl

@[simp] theorem begunAs_processor (d : Desk) (c : Command) (s : State) :
    (begunAs d c s).processor = ⟨.executing d, d⟩ := rfl

/-- A request that is taken at once is answered by its owner, and nothing else happens. `read` is that the
command processor reads the request from its own code and parameters (R179). -/
theorem requestArrives_taken {d : Desk} {tag : Byte} {r : Request} {s : State} (h : TakenAtOnce d r s)
    (read : parse r.code r.params = .request r) (notRestart : r ≠ .restart) :
    requestArrives d tag r s =
      let a := perform r (begun d tag r s)
      answered d tag r a.result (replyData a.result a.data) a.state := by
  have keep := perform_samePorts r (begun d tag r s)
  have served : (perform r (begun d tag r s)).state.processor.served = d := by rw [keep.processor]; rfl
  have taken : takeCommand d (r.command tag) (s.setBuffer d (.waiting (r.command tag))) =
      answer d (r.command tag) (perform r (begun d tag r s)) := by
    have check : checkCommand d (r.command tag) (begunAs d (r.command tag) s) = .ok r := by
      simp [checkCommand, Request.command, read, h.permitted, h.notStoring]
    simp only [takeCommand, beginCommand_arrival, check, dispatch, begunAs_level, begunAs_isHeld]
    rw [if_neg, if_neg notRestart]
    · rfl
    · rintro ⟨a, b⟩
      obtain k | k := h.notHeld
      · rw [k] at a; cases a
      · rw [k] at b; cases b
  have alone : (((perform r (begun d tag r s)).state).desk d.other).port.buffer.waitingCommand = none := by
    rw [keep.ports]
    have := h.free.alone
    simpa [begun] using this
  unfold requestArrives commandArrives
  simp only [h.free.buffer]
  rw [arbitrate_one (nextCommand_arrival h.free) (by rw [taken]; exact nextCommand_answer served alone), taken,
    answer_eq_answeredAs served]
  rfl

end Sys2Proof.Machine
end

