-- ==== Sys2Proof/Laws/Steps.lean ====
section
/-! SUPPORT. What a step can do, said once: a predicate that the single occurrences keep is kept by every
step, and compute end and the millisecond tick are made of their parts. -/

namespace Sys2Proof.Machine

/-- A predicate kept by each turn of a fold is kept by the fold. -/
theorem foldl_keeps {α : Type} {P : State → Prop} {f : State → α → State} (one : ∀ s a, P s → P (f s a))
    (xs : List α) {s : State} (h : P s) : P (xs.foldl f s) := by
  induction xs generalizing s with
  | nil => exact h
  | cons a rest ih => exact ih (one s a h)

/-- The occurrences that make up the steps of the part, each keeping a predicate. -/
structure KeptByOccurrences (P : State → Prop) : Prop where
  queue : ∀ rest s, P s → P { s with pending := rest }
  choice : ∀ n s, P s → P { s with choices := n }
  power : ∀ s, P s → P (powerOn s)
  millisecond : ∀ s, P s → P (advanceMillisecond s)
  receiver : ∀ d x s, P s → P (s.setReceiver d ((s.desk d).receiver.take x).1)
  levels : ∀ d base levels s, P s → P (levelsArrive d base levels s)
  command : ∀ d c s, P s → P (commandArrives d c s)
  timeout : ∀ d s, P s → P (checkTimeout d s)
  lossFade : ∀ d s, P s → P (expireFade d s)
  reply : ∀ d s, P s → P (replyDone d s)
  restart : ∀ s, P s → P (restartMoment s)
  scan : ∀ s, s.level.phase = .waiting → s.level.timer = 0 → P s → P (scanStart s)
  compute : ∀ s, s.level.phase = .computing → P s → P (computeEnd s)
  frame : ∀ l s, P s → P (s.setLink l (s.links.get l).frameEnd)
  refresh : ∀ l s, P s → P (s.setLink l (s.links.get l).refreshed)
  input : ∀ c high s, P s → P (changeContact c high s)
  debounce : ∀ c s, P s → P (debounceEnd c s)
  clock : ∀ c s, P s → P (owedAdvance c s)
  stored : ∀ s, P s → P (storeCompleted s)
  faulted : ∀ s, P s → P (storeFaulted s)

theorem receive_keeps {P : State → Prop} (h : KeptByOccurrences P) (d : Desk) (x : Character) {s : State}
    (hs : P s) : P (receive d x s) := by
  unfold receive acceptFrame
  simp only
  split
  · exact h.levels _ _ _ _ (h.receiver _ _ _ hs)
  · exact h.command _ _ _ (h.receiver _ _ _ hs)
  · exact h.receiver _ _ _ hs

theorem receiveFrame_keeps {P : State → Prop} (h : KeptByOccurrences P) (d : Desk) (k : FrameKind)
    (bytes : List Byte) {s : State} (hs : P s) : P (receiveFrame d k bytes s) := by
  unfold receiveFrame receiveRun
  refine foldl_keeps (fun s b hs => receive_keeps h d _ hs) bytes ?_
  unfold takeHeader
  split
  · exact hs
  · exact receive_keeps h d _ hs

theorem scanStartIfDue_keeps {P : State → Prop} (h : KeptByOccurrences P) {s : State} (hs : P s) :
    P (scanStartIfDue s) := by
  unfold scanStartIfDue scanIsDue
  split
  · rename_i k
    simp only [Bool.and_eq_true, decide_eq_true_eq] at k
    exact h.scan s k.1 k.2 hs
  · exact hs

theorem computeEndIfComputing_keeps {P : State → Prop} (h : KeptByOccurrences P) {s : State} (hs : P s) :
    P (computeEndIfComputing s) := by
  unfold computeEndIfComputing
  split
  · exact h.compute s (by assumption) hs
  · exact hs

/-- The millisecond tick is made of occurrences and of the advance of every count. -/
theorem showClockTick_keeps {P : State → Prop} (h : KeptByOccurrences P) {s : State} (hs : P s) :
    P (showClockTick s) := by
  have stored : ∀ s, P s → P (storeEndAtLimit s) := by
    intro s hs
    unfold storeEndAtLimit
    split
    · split
      · simp only
        split
        · exact h.faulted _ (h.choice _ _ hs)
        · exact h.stored _ (h.choice _ _ hs)
      · exact hs
    · exact hs
    · exact hs
  have computed : ∀ s, P s → P (computeEndAtLimit s) := by
    intro s hs
    unfold computeEndAtLimit
    split
    · exact computeEndIfComputing_keeps h hs
    · exact hs
  have clocks : ∀ s, P s → P ((List.finRange 3).foldl (fun s c => owedAdvance c s) s) := fun s hs =>
    foldl_keeps (fun s c hs => h.clock c s hs) _ hs
  have contacts : ∀ s, P s → P ((List.finRange 4).foldl (fun s c => debounceEnd c s) s) := fun s hs =>
    foldl_keeps (fun s c hs => h.debounce c s hs) _ hs
  have links : ∀ s, P s → P ((List.finRange 4).foldl (fun s l => refreshLink l s) s) := fun s hs =>
    foldl_keeps (fun s l hs => h.refresh l s hs) _ hs
  have k1 := contacts _ (clocks s hs)
  have k2 := h.timeout .B _ (h.timeout .A _ k1)
  have k3 := h.lossFade .B _ (h.lossFade .A _ k2)
  have k4 := stored _ (computed _ (links _ k3))
  exact h.millisecond _ (scanStartIfDue_keeps h k4)

/-- What a step can do, said once: a predicate that every occurrence keeps is kept by every command. -/
theorem exec_keeps {P : State → Prop} (h : KeptByOccurrences P) {i : Instr} {s t : State} (hs : P s)
    (he : exec i s = .next t) : P t := by
  rcases hi : i.request with _ | ⟨d, tag, r⟩
  · cases i <;> simp only [Instr.request, reduceCtorEq] at hi <;>
      simp only [exec, Host.Outcome.next.injEq,
      execPowerOn, execShowClockTick, execLevelsFrame, execLevelsFrameRefused,
      execCommandFrame, execCommandLengthRefused, execMarkedCharacterInFrame,
      execFramingError, execDeskTimeout, execLossFadeExpiry, execReplySent, execScanStart,
      execComputeEnd, execRestartCarriedOut, execRackFrameEnd, execRefresh,
      execContactInputChange, execDebounceExpiry, execClockMatch, execStoreDone,
      execStoreFailed, execFrameHeaderInHunt] at he <;>
      subst he
    · exact h.power s hs
    · exact showClockTick_keeps h hs
    · exact receiveFrame_keeps h _ _ _ hs
    · exact receiveFrame_keeps h _ _ _ hs
    · exact receiveFrame_keeps h _ _ _ hs
    · exact receiveFrame_keeps h _ _ _ hs
    · exact receive_keeps h _ _ hs
    · exact receive_keeps h _ _ hs
    · exact h.timeout _ s hs
    · exact h.lossFade _ s hs
    · exact h.reply _ s hs
    · exact scanStartIfDue_keeps h hs
    · exact computeEndIfComputing_keeps h hs
    · exact h.restart s hs
    · exact h.frame _ s hs
    · exact h.refresh _ s hs
    · exact h.input _ _ s hs
    · exact h.debounce _ s hs
    · exact h.clock _ s hs
    · exact h.stored s hs
    · exact h.faulted s hs
    · exact receive_keeps h _ _ hs
  · rw [exec_request hi] at he
    cases he
    exact h.command d _ s hs

/-- A predicate that every occurrence keeps is kept by every step. -/
theorem step_keeps {P : State → Prop} (h : KeptByOccurrences P) {s t : State} (hs : P s)
    (he : step s = .next t) : P t := by
  unfold step at he
  split at he
  · cases he
    exact hs
  · exact exec_keeps h (h.queue _ s hs) he

/-! ### The parts of compute end -/

/-- A predicate kept by each held request is kept by all of them taken in turn (R77). -/
theorem takeHeldAll_keeps {P : State → Prop} (take : ∀ h rest s, P s → P (takeHeld h (s.setHeld rest)))
    (held : List Held) {s : State} (hs : P s) : P (takeHeldAll held s) := by
  induction held generalizing s with
  | nil => exact hs
  | cons h rest ih => exact ih (take h rest s hs)

/-- A predicate kept by each part of compute end is kept by compute end (R78). -/
theorem computeEnd_keeps {P : State → Prop}
    (post : ∀ s, P s → P (postSets { s with level := { s.level with phase := .waiting } }))
    (take : ∀ h rest s, P s → P (takeHeld h (s.setHeld rest)))
    (dark : ∀ s, P s → P (darkTest s)) (swap : ∀ s, P s → P (swapDone s))
    (events : ∀ s, P s → P (scanWorkEvents s)) (watch : ∀ s w, P s → P (evaluateWatch s w))
    (record : ∀ s, P s → P (writeRecord s)) (serve : ∀ s, P s → P (arbitrate s)) {s : State} (hs : P s) :
    P (computeEnd s) := by
  have h1 := post s hs
  generalize h : postSets { s with level := { s.level with phase := .waiting } } = s1 at h1
  have h2 := events _ (swap _ (dark _ (takeHeldAll_keeps take s1.level.held h1)))
  unfold computeEnd evaluateWatches
  simp only [h]
  exact serve _ (record _ (foldl_keeps watch _ h2))

end Sys2Proof.Machine
end

