-- ==== Sys2Proof/Laws/Holdoff.lean ====
section
/-! SUPPORT. The holdoff marks of the routes through the shared operations: an event, an owner, a command and a
compute end only ever set a mark, and none of them touches the scan timer (R67, R143). -/

namespace Sys2Proof.Machine

/-- Every holdoff mark that is set in the first state is set in the second, and the scan timer is the same. -/
structure MarksStand (s t : State) : Prop where
  marks : ∀ r, (s.triggers.routes.get r).holdoff = true → (t.triggers.routes.get r).holdoff = true
  timer : t.level.timer = s.level.timer

theorem MarksStand.trans {s t u : State} (h : MarksStand s t) (k : MarksStand t u) : MarksStand s u :=
  ⟨fun r m => k.marks r (h.marks r m), k.timer.trans h.timer⟩

theorem MarksStand.of_routes {s t : State} (r : t.triggers.routes = s.triggers.routes)
    (l : t.level.timer = s.level.timer) : MarksStand s t :=
  ⟨fun x m => by rw [r]; exact m, l⟩

theorem MarksStand.rfl (s : State) : MarksStand s s := .of_routes (.refl _) (.refl _)

/-- An update before that touches neither routes nor timer. -/
theorem MarksStand.after {s t u : State} (k : MarksStand t u) (r : t.triggers.routes = s.triggers.routes)
    (l : t.level.timer = s.level.timer) : MarksStand s u :=
  (MarksStand.of_routes r l).trans k

/-- An update afterwards that touches neither routes nor timer. -/
theorem MarksStand.then {s t u : State} (h : MarksStand s t) (r : u.triggers.routes = t.triggers.routes)
    (l : u.level.timer = t.level.timer) : MarksStand s u :=
  h.trans (.of_routes r l)

/-! ### Events -/

theorem MarksStand.fire (s : State) (r : Fin 16) :
    MarksStand s (s.setRoute r { s.triggers.routes.get r with holdoff := true }) := by
  refine ⟨fun x m => ?_, .refl _⟩
  simp only [State.setRoute, Table.get_set]
  split
  · exact .refl _
  · exact m

theorem MarksStand.goTaken (p : Fin 6) (s : State) : MarksStand s (s.goTaken p) := by
  obtain h | ⟨x, -, h⟩ := goTaken_cases p s <;> rw [h]
  · exact .rfl s
  · exact .of_routes (.refl _) (.refl _)

theorem MarksStand.applyMoved {raise : Event → State → State} (hr : ∀ e s, MarksStand s (raise e s))
    (p : Fin 6) (m : Moved) (s : State) : MarksStand s (applyMoved raise p m s) := by
  unfold Machine.applyMoved
  refine raiseAll_keeps (P := MarksStand s) (fun e t h => h.trans (hr e t)) m.events ?_
  split
  · exact (MarksStand.goTaken p (s.setPlayback p m.playback)).after (.refl _) (.refl _)
  · exact .of_routes (.refl _) (.refl _)

theorem MarksStand.takeTask {raise : Event → State → State} (hr : ∀ e s, MarksStand s (raise e s))
    (r : Fin 16) (t : Task) (s : State) : MarksStand s (takeTask raise r t s) := by
  have same : ∀ {t : State}, t.triggers.routes = s.triggers.routes → t.level.timer = s.level.timer →
      MarksStand s t := MarksStand.of_routes
  have taken : ∀ {x : State × Result}, MarksStand s x.1 → MarksStand s (taskTaken r x) := by
    intro x h
    unfold taskTaken
    split
    · exact h.trans (.of_routes (.refl _) (.refl _))
    · exact h
  cases t with
  | go p =>
    refine taken ?_
    obtain ⟨x, h⟩ | ⟨m, x, h⟩ := goPlayback_cases raise p s <;> rw [h]
    · exact .rfl s
    · exact .applyMoved hr p m s
  | pause p =>
    refine taken ?_
    obtain ⟨x, h⟩ | ⟨pb, x, h⟩ := pausePlayback_cases p s <;> rw [h] <;> exact same (.refl _) (.refl _)
  | resume p =>
    refine taken ?_
    obtain ⟨x, h⟩ | ⟨pb, x, h⟩ := resumePlayback_cases p s <;> rw [h] <;> exact same (.refl _) (.refl _)
  | release p =>
    refine taken ?_
    obtain ⟨x, h⟩ | ⟨pb, x, h⟩ := releasePlayback_cases p s <;> rw [h] <;> exact same (.refl _) (.refl _)
  | _ =>
    simp only [Machine.takeTask, clockTask, swapNow]
    (repeat' split) <;> exact same (.refl _) (.refl _)

theorem MarksStand.issueTask {raise : Event → State → State} (hr : ∀ e s, MarksStand s (raise e s))
    (r : Fin 16) (t : Task) (s : State) : MarksStand s (issueTask raise r t s) := by
  unfold Machine.issueTask
  split
  · exact .of_routes (.refl _) (.refl _)
  · exact .takeTask hr r t s

/-- An event, with all that it sets off, clears no holdoff mark. -/
theorem MarksStand.raiseWithin (n : Nat) (e : Event) (s : State) : MarksStand s (raiseWithin n e s) := by
  have reported : ∀ e (t : State), MarksStand t (t.report e) := fun _ _ => .of_routes (.refl _) (.refl _)
  induction n generalizing e s with
  | zero => exact reported e s
  | succ n ih =>
    unfold Machine.raiseWithin
    split
    · refine offer_keeps (P := MarksStand s) (fun r t h => ?_) (reported e s)
      obtain h' | h' | ⟨-, h'⟩ := offerRoute_cases (Machine.raiseWithin n) e t r <;> rw [h']
      · exact h
      · exact h.trans (reported _ t)
      · exact h.trans ((MarksStand.fire t r).trans (.issueTask ih r _ _))
    · exact reported e s

theorem MarksStand.raiseEvent (e : Event) (s : State) : MarksStand s (raiseEvent e s) := .raiseWithin _ e s

theorem MarksStand.raiseAll (es : List Event) (s : State) : MarksStand s (raiseAll Machine.raiseEvent es s) :=
  raiseAll_keeps (P := MarksStand s) (fun e t h => h.trans (.raiseEvent e t)) es (.rfl s)

/-! ### Owners -/

theorem MarksStand.checkTimeout (d : Desk) (s : State) : MarksStand s (checkTimeout d s) := by
  unfold Machine.checkTimeout
  simp only
  split
  · exact (MarksStand.of_routes (by simp) (by simp)).trans (.raiseEvent _ _)
  · exact .rfl s

theorem MarksStand.acceptContact (c : Fin 4) (s : State) : MarksStand s (acceptContact c s) := by
  unfold Machine.acceptContact
  simp only
  split
  · exact (MarksStand.of_routes (by simp [State.setContact]) (by simp)).trans (.raiseEvent _ _)
  · exact .of_routes (.refl _) (.refl _)

theorem MarksStand.debounceEnd (c : Fin 4) (s : State) : MarksStand s (debounceEnd c s) := by
  unfold Machine.debounceEnd
  split
  · exact .acceptContact c s
  · exact .rfl s

/-- The owner of a request clears no holdoff mark and leaves the scan timer as it is. -/
theorem MarksStand.perform (r : Request) (s : State) : MarksStand s (perform r s).state := by
  have same : ∀ {t : State}, t.triggers.routes = s.triggers.routes → t.level.timer = s.level.timer →
      MarksStand s t := MarksStand.of_routes
  have moved : ∀ p m, MarksStand s (Machine.applyMoved Machine.raiseEvent p m s) := fun p m =>
    MarksStand.applyMoved (fun e s => .raiseEvent e s) p m s
  have playback : ∀ {n : Byte} {take : Fin 6 → State × Result}, (∀ p, MarksStand s (take p).1) →
      MarksStand s (playbackRequest n s take).state := by
    intro n take h
    unfold playbackRequest
    split
    · exact .rfl s
    · exact h _
  cases r with
  | go p =>
    refine playback fun p => ?_
    obtain ⟨x, h⟩ | ⟨m, x, h⟩ := goPlayback_cases Machine.raiseEvent p s <;> rw [h]
    · exact .rfl s
    · exact moved p m
  | goto p cue ovr =>
    refine playback fun p => ?_
    obtain ⟨x, h⟩ | ⟨m, x, h⟩ := gotoPlayback_cases Machine.raiseEvent p cue ovr s <;> rw [h]
    · exact .rfl s
    · exact moved p m
  | back p =>
    refine playback fun p => ?_
    obtain ⟨x, h⟩ | ⟨m, x, h⟩ := backPlayback_cases Machine.raiseEvent p s <;> rw [h]
    · exact .rfl s
    · exact moved p m
  | setDesk d t act fade mrg rts =>
    simp only [Machine.perform, ownerSetDesk]
    (repeat' split) <;>
      first
        | exact .rfl s
        | exact (MarksStand.of_routes (by simp) (by simp)).trans (.checkTimeout _ _)
  | setContact c e t =>
    simp only [Machine.perform, ownerSetContact]
    (repeat' split) <;>
      first
        | exact same (.refl _) (.refl _)
        | exact (MarksStand.of_routes (by simp [State.setContact]) (by simp)).trans (.debounceEnd _ _)
  | readDesk d c =>
    simp only [Machine.perform, ownerReadDesk]
    (repeat' split) <;> first | exact .rfl s | exact same (by simp) (by simp)
  | setRoute r en sk ss tk tt =>
    simp only [Machine.perform, ownerSetRoute, refuse]
    (repeat' split) <;> try exact .rfl s
    refine ⟨fun x m => ?_, .refl _⟩
    simp only [State.setRoute, Table.get_set]
    split
    · subst_vars; exact m
    · exact m
  | _ =>
    simp only [Machine.perform, playbackRequest, pausePlayback, resumePlayback, releasePlayback,
      loadListPlayback, unloadPlayback, setMasterPlayback, ownerSetRate, setTimesPlayback,
      ownerWriteCue, writeCheckedCue, ownerDeleteCue, ownerClearList, ownerSetCircuit,
      ownerCopyBank, ownerClearBank, ownerSelectBank, ownerCancelSwap, ownerLoadLaw, ownerPark, ownerUnpark,
      ownerUnparkAll, ownerSetGrandMaster, ownerBlackout, ownerSetScan, ownerSetLink, ownerSetClock,
      ownerClockAction, ownerSetWatch, ownerTakeReports, ownerSetReportMask, ownerClearFlags,
      ownerStore, ownerReadStatus, ownerReadPlayback, ownerReadChannel, ownerReadCircuit, ownerReadCue,
      ownerReadBankEntry, ownerReadLaw, ownerReadTriggers, refuse]
    (repeat' split) <;> exact same (.refl _) (.refl _)

/-! ### Commands and compute end -/

theorem MarksStand.answer (d : Desk) (c : Command) (a : Answer) : MarksStand a.state (answer d c a) :=
  .of_routes (by simp [Machine.answer, addReply, State.setProcessor])
    (by simp [Machine.answer, addReply, State.setProcessor])

theorem MarksStand.takeCommand (d : Desk) (c : Command) (s : State) : MarksStand s (takeCommand d c s) := by
  have begun : MarksStand s (beginCommand d c s) :=
    .of_routes (by simp [beginCommand]) (by simp [beginCommand])
  unfold Machine.takeCommand dispatch
  simp only
  split
  · exact begun.trans (MarksStand.answer d c (refuse _ _))
  · split
    · exact begun.trans (.of_routes (.refl _) (.refl _))
    · split
      · exact begun.trans (.of_routes (by simp [answerRestart, addReply]) (by simp [answerRestart, addReply]))
      · exact begun.trans ((MarksStand.perform _ _).trans (.answer d c _))

theorem MarksStand.arbitrate (s : State) : MarksStand s (arbitrate s) := by
  suffices ∀ n s, MarksStand s (arbitrateWithin n s) from this 2 s
  intro n
  induction n with
  | zero => exact .rfl
  | succ n ih =>
    intro s
    unfold arbitrateWithin
    split
    · exact (MarksStand.takeCommand _ _ s).trans (ih _)
    · exact .rfl s

/-- A command that arrives clears no holdoff mark, whatever it sets off. -/
theorem MarksStand.commandArrives (d : Desk) (c : Command) (s : State) :
    MarksStand s (commandArrives d c s) := by
  have set : ∀ b, MarksStand s (s.setBuffer d b) := fun b => .of_routes (by simp) (by simp)
  unfold Machine.commandArrives
  split
  · exact (set _).trans (.arbitrate _)
  all_goals
    split
    · exact .of_routes (by simp [addReply]) (by simp [addReply])
    · exact .rfl s

theorem MarksStand.takeHeld (h : Held) (s : State) : MarksStand s (takeHeld h s) := by
  cases h with
  | command d c r =>
    exact ((MarksStand.perform r (s.setProcessor (.executing d))).trans (.answer d c _)).after (.refl _) (.refl _)
  | task r t => exact .takeTask (fun e s => .raiseEvent e s) r t s

/-- A compute end clears no holdoff mark and leaves the scan timer as it is. -/
theorem MarksStand.computeEnd (s : State) : MarksStand s (computeEnd s) := by
  have skipped : ∀ (links : List (Fin 4)) (u : State), MarksStand u (raiseSkipped links u) := fun links u =>
    foldl_keeps (P := MarksStand u) (f := fun v l => v.report ⟨.setSkipped, numbered l, 0⟩)
      (fun v l h => h.then (.refl _) (.refl _)) links (.rfl u)
  have posted : ∀ u, MarksStand u (postSets u) := by
    intro u
    unfold postSets raiseSkippedFreely
    simp only
    split
    · exact .of_routes (.refl _) (.refl _)
    · exact (skipped _ _).after (.refl _) (.refl _)
    · exact (skipped _ _).after (.refl _) (.refl _)
  have swapped : ∀ u, MarksStand u (swapDone u) := by
    intro u
    unfold swapDone
    split
    · rename_i before _
      have raised := MarksStand.raiseEvent ⟨.swapDone, numbered u.level.activeBank, numbered before⟩ u
      generalize Machine.raiseEvent _ u = v at raised ⊢
      exact raised.then (.refl _) (.refl _)
    · exact .rfl u
  have watched : ∀ u w, MarksStand u (evaluateWatch u w) := by
    intro u w
    unfold evaluateWatch
    simp only
    split
    · refine MarksStand.after (.raiseEvent _ _) ?_ ?_ <;> simp only [State.setWatch]
    · exact .of_routes (by simp only [State.setWatch]) (by simp only [State.setWatch])
  have raised : ∀ u, MarksStand u (scanWorkEvents u) := fun u => by
    unfold scanWorkEvents
    refine MarksStand.after (.raiseAll _ _) ?_ ?_ <;> simp only
  have dark : ∀ u, MarksStand u (darkTest u) := fun u => by
    unfold darkTest
    simp only
    (repeat' split) <;> exact .of_routes (.refl _) (.refl _)
  exact computeEnd_keeps (P := MarksStand s)
    (fun u h => h.trans ((posted _).after (.refl _) (.refl _)))
    (fun x rest u h => h.trans ((MarksStand.takeHeld x (u.setHeld rest)).after (.refl _) (.refl _)))
    (fun u h => h.trans (dark u))
    (fun u h => h.trans (swapped u)) (fun u h => h.trans (raised u)) (fun u w h => h.trans (watched u w))
    (fun u h => h.then (.refl _) (.refl _)) (fun u h => h.trans (.arbitrate u)) (.rfl s)

end Sys2Proof.Machine
end

