-- ==== Sys2Proof/Laws/Words.lean ====
section
/-! SUPPORT. The laws of numbers, scales and the bytes of fields: what each shared operation of
Machine/Ops.lean and Machine/Operands.lean can answer. -/

namespace Sys2Proof.Machine

/-! ### Numbers of items -/

theorem number_eq_some {n k : Nat} {i : Fin n} : number n k = some i ↔ k = numbered i := by
  unfold number numbered
  constructor
  · intro h
    split at h
    · cases h
      simp only
      omega
    · cases h
  · rintro rfl
    have h : 1 ≤ i.val + 1 ∧ i.val + 1 ≤ n := ⟨by omega, by omega⟩
    rw [dif_pos h]
    rfl

theorem number_eq_none {n k : Nat} : number n k = none ↔ k = 0 ∨ n < k := by
  unfold number
  split <;> simp <;> omega

@[simp] theorem number_numbered {n : Nat} (i : Fin n) : number n (numbered i) = some i :=
  number_eq_some.mpr rfl

theorem numbered_pos {n : Nat} (i : Fin n) : 1 ≤ numbered i := by
  simp [numbered]

theorem numbered_le {n : Nat} (i : Fin n) : numbered i ≤ n := i.isLt

theorem numbered_inj {n : Nat} {i j : Fin n} : numbered i = numbered j ↔ i = j := by
  simp only [numbered, Fin.ext_iff]
  omega

theorem deskOfCode_eq_some {k : Nat} {d : Desk} : deskOfCode k = some d ↔ k = deskCode d := by
  constructor
  · intro h
    unfold deskOfCode at h
    split at h <;> cases h <;> rfl
  · rintro rfl
    cases d <;> rfl

theorem deskOfCode_eq_none {k : Nat} : deskOfCode k = none ↔ k ≠ 1 ∧ k ≠ 2 := by
  constructor
  · intro h
    unfold deskOfCode at h
    split at h
    · cases h
    · cases h
    · rename_i h1 h2
      exact ⟨h1, h2⟩
  · rintro ⟨h1, h2⟩
    unfold deskOfCode
    split
    · contradiction
    · contradiction
    · rfl

/-! ### Scales -/

theorem clamp_of_lt {lo hi x : Nat} (h : x < lo) : clamp lo hi x = lo := by
  simp only [clamp]
  omega

theorem clamp_of_gt {lo hi x : Nat} (h : hi < x) (hl : lo ≤ hi) : clamp lo hi x = hi := by
  simp only [clamp]
  omega

theorem clamp_of_mem {lo hi x : Nat} (h : lo ≤ x) (hl : x ≤ hi) : clamp lo hi x = x := by
  simp only [clamp]
  omega

theorem clamp_ge (lo hi x : Nat) : lo ≤ clamp lo hi x := Nat.le_max_left ..

theorem clamp_le {lo hi : Nat} (h : lo ≤ hi) (x : Nat) : clamp lo hi x ≤ hi := by
  simp only [clamp]
  omega

theorem expand_le (x : Byte) : expand x ≤ 4095 := by
  have : x.toNat < 256 := x.isLt
  simp only [expand]
  omega

theorem scaleBy_le (master : Byte) (x : Nat) : scaleBy master x ≤ x := by
  have hm : master.toNat ≤ 255 := Nat.lt_succ_iff.mp master.isLt
  have : x * master.toNat ≤ x * 255 := Nat.mul_le_mul_left x hm
  simp only [scaleBy]
  omega

theorem fadeClockValue_of_le {x : Nat} (h : x ≤ Config.maxFadeClock) : fadeClockValue x = x := by
  simp [fadeClockValue, h]

theorem fadeClockValue_le (x : Nat) : fadeClockValue x ≤ Config.maxFadeClock := by
  unfold fadeClockValue
  split
  · assumption
  · have := (Config.fadeClockPastLimit x).isLt
    simp only [Config.maxFadeClock]
    omega

/-! ### Bytes of fields -/

@[simp] theorem half_extract (x : Half) : half (x.extractLsb' 8 8) (x.extractLsb' 0 8) = x := by
  unfold half
  ext i hi
  simp only [BitVec.getElem_append, BitVec.getElem_extractLsb']
  split
  · rw [← BitVec.getLsbD_eq_getElem]
    congr 1
    omega
  · rw [← BitVec.getLsbD_eq_getElem]
    congr 1
    omega

@[simp] theorem halfBytes_half (hi lo : Byte) : halfBytes (half hi lo) = [hi, lo] := by
  unfold halfBytes half
  congr 1
  · ext i h
    simp only [BitVec.getElem_extractLsb', BitVec.getLsbD_append]
    rw [if_neg (by omega), ← BitVec.getLsbD_eq_getElem]
    congr 1
    omega
  · congr 1
    ext i h
    simp only [BitVec.getElem_extractLsb', BitVec.getLsbD_append]
    rw [if_pos (by omega), ← BitVec.getLsbD_eq_getElem]
    congr 1
    omega

theorem half_of_bytes (x : Half) : ∃ hi lo : Byte, halfBytes x = [hi, lo] ∧ half hi lo = x :=
  ⟨_, _, rfl, half_extract x⟩

@[simp] theorem quad_extract (x : Quad) :
    quad (x.extractLsb' 24 8) (x.extractLsb' 16 8) (x.extractLsb' 8 8) (x.extractLsb' 0 8) = x := by
  unfold quad
  ext i hi
  simp only [BitVec.getElem_append, BitVec.getElem_extractLsb']
  split <;> split <;> (rw [← BitVec.getLsbD_eq_getElem]; congr 1; omega)

theorem quad_of_bytes (x : Quad) :
    ∃ a b c d : Byte, quadBytes x = [a, b, c, d] ∧ quad a b c d = x :=
  ⟨_, _, _, _, rfl, quad_extract x⟩

@[simp] theorem halfBytes_length (x : Half) : (halfBytes x).length = 2 := rfl

@[simp] theorem quadBytes_length (x : Quad) : (quadBytes x).length = 4 := rfl

/-- The raw entries of the bytes of some entries are those entries (R179). -/
@[simp] theorem rawEntries_entryBytes (entries : List (Half × Byte)) :
    rawEntries (entryBytes entries) = entries.map fun e => (e.1.toNat, e.2) := by
  induction entries with
  | nil => rfl
  | cons e rest ih =>
    have h : entryBytes (e :: rest) =
        e.1.extractLsb' 8 8 :: e.1.extractLsb' 0 8 :: e.2 :: entryBytes rest := by
      simp [entryBytes, halfBytes]
    rw [h]
    simp [rawEntries, ih]

@[simp] theorem entryBytes_length (entries : List (Half × Byte)) :
    (entryBytes entries).length = 3 * entries.length := by
  induction entries with
  | nil => rfl
  | cons e rest ih =>
    have h : entryBytes (e :: rest) = halfBytes e.1 ++ [e.2] ++ entryBytes rest := by
      simp [entryBytes]
    simp [h, ih]
    omega

end Sys2Proof.Machine
end

