-- ==== Sys2Proof/Laws/Operations.lean ====
section
/-! SUPPORT. The shared operations, each with everything it can answer said once: reports, timeouts, contacts,
cue clocks, fade records and rack transmitters. -/

namespace Sys2Proof.Machine

/-! ### Reports (R164, R165) -/

theorem Reports.append_cases (r : Reports) (x : Report) :
    (r.queue.length < 32 ∧ r.append x = { r with queue := r.queue ++ [x] }) ∨
    (32 ≤ r.queue.length ∧ r.append x = { r with overrun := true }) := by
  unfold Reports.append
  split
  · exact .inl ⟨by assumption, rfl⟩
  · rename_i h
    exact .inr ⟨by simpa [Config.reportCapacity] using h, rfl⟩

theorem Reports.take_queue_le {r : Reports} (h : r.queue.length ≤ 32) (e : Event) (now : Time) :
    (r.take e now).queue.length ≤ 32 := by
  unfold Reports.take
  simp only
  split
  · obtain ⟨h1, h2⟩ | ⟨-, h2⟩ :=
      Reports.append_cases { r with flags := r.flags ||| BitVec.twoPow 14 e.kind.bit } ⟨e, now⟩ <;> rw [h2]
    · simp only at h1
      simp only [List.length_append, List.length_singleton]
      omega
    · exact h
  · exact h

/-! ### Desks (R55 to R57) -/

theorem Monitor.timedOut_iff {m : Monitor} {now : Time} : m.timedOut now = true ↔
    m.state = .active ∧ ∃ t, m.lastLevels = some t ∧ m.settings.timeout ≤ elapsed now t := by
  unfold Monitor.timedOut
  split
  · rename_i t h1 h2
    simp [h1, h2]
  · rename_i h
    simp only [Bool.false_eq_true, false_iff, not_and, not_exists]
    exact fun h1 t h2 _ => h t h1 h2

theorem checkTimeout_cases (d : Desk) (s : State) :
    ((s.desk d).monitor.timedOut s.showClock = false ∧ checkTimeout d s = s) ∨
    ((s.desk d).monitor.timedOut s.showClock = true ∧
      checkTimeout d s =
        raiseEvent ⟨.deskLost, deskCode d, (s.desk d).monitor.settings.lossAction.code⟩
          (s.setMonitor d ((s.desk d).monitor.lose s.showClock))) := by
  unfold checkTimeout
  simp only
  split
  · exact .inr ⟨by assumption, rfl⟩
  · rename_i h
    exact .inl ⟨by simpa using h, rfl⟩

theorem Monitor.fadeExpired_iff {m : Monitor} {now : Time} : m.fadeExpired now = true ↔
    m.fadeRunning = true ∧ ∃ x, m.loss = some x ∧ x.fadeTime ≤ elapsed now x.moment := by
  unfold Monitor.fadeExpired
  split
  · rename_i x h1 h2
    simp [h1, h2]
  · rename_i h
    simp only [Bool.false_eq_true, false_iff, not_and, not_exists]
    exact fun h1 x h2 _ => h x h1 h2

theorem expireFade_cases (d : Desk) (s : State) :
    ((s.desk d).monitor.fadeExpired s.showClock = false ∧ expireFade d s = s) ∨
    ((s.desk d).monitor.fadeExpired s.showClock = true ∧
      expireFade d s =
        s.setMonitor d { (s.desk d).monitor with live := Table.fill 768 0, fadeRunning := false }) := by
  unfold expireFade
  simp only
  split
  · exact .inr ⟨by assumption, rfl⟩
  · rename_i h
    exact .inl ⟨by simpa using h, rfl⟩

/-- A running loss fade never gives more than the live value (R57). -/
theorem fadedLevel_le (e t live : Nat) : fadedLevel e t live ≤ live := by
  unfold fadedLevel
  split
  · rename_i h
    have h1 : live * (t - e) ≤ live * t := Nat.mul_le_mul_left live (Nat.sub_le t e)
    calc (live * (t - e) + t / 2) / t ≤ (live * t + t / 2) / t := Nat.div_le_div_right (by omega)
      _ = live := by
        rw [Nat.mul_comm, Nat.mul_add_div (by omega), Nat.div_eq_of_lt (by omega), Nat.add_zero]
  · exact Nat.zero_le _

/-! ### Contacts and cue clocks (R134, R137) -/

theorem Contact.expired_iff {x : Contact} : x.expired = true ↔ ∃ t, x.timer = some t ∧ x.debounce ≤ t := by
  unfold Contact.expired
  split <;> simp_all

theorem acceptContact_cases (c : Fin 4) (s : State) :
    let x := s.triggers.contacts.get c
    let s' := s.setContact c { x with accepted := x.input, timer := none }
    acceptContact c s = s' ∨ acceptContact c s = raiseEvent ⟨.contact, numbered c, edgeDetail x.input⟩ s' := by
  unfold acceptContact
  simp only
  split
  · exact .inr rfl
  · exact .inl rfl

/-- An advance of a clock leaves its settings, and owes nothing (R136, R137). -/
theorem CueClock.advance_keeps (x : CueClock) :
    x.advance.1.mode = x.mode ∧ x.advance.1.compare = x.compare ∧ x.advance.1.load = x.load ∧
      x.advance.1.owed = false := by
  unfold CueClock.advance CueClock.matched
  simp only
  split
  · exact ⟨rfl, rfl, rfl, rfl⟩
  · split
    · split <;> exact ⟨rfl, rfl, rfl, rfl⟩
    · exact ⟨rfl, rfl, rfl, rfl⟩
  · split
    · split <;> exact ⟨rfl, rfl, rfl, rfl⟩
    · exact ⟨rfl, rfl, rfl, rfl⟩

theorem advanceClock_cases (c : Fin 3) (s : State) :
    let r := (s.triggers.clocks.get c).advance
    (r.2 = none ∧ advanceClock c s = s.setClock c r.1) ∨
    ∃ detail, r.2 = some detail ∧
      advanceClock c s = raiseEvent ⟨.clock, numbered c, detail⟩ (s.setClock c r.1) := by
  unfold advanceClock
  simp only
  split
  · exact .inr ⟨_, by assumption, rfl⟩
  · exact .inl ⟨by assumption, rfl⟩

/-! ### Fade records (R22, R23) -/

@[simp] theorem FadeRecord.setMove_level (clock target : Nat) (up down : Pair) (r : FadeRecord) :
    (r.setMove clock target up down).level = r.level := rfl

@[simp] theorem FadeRecord.setMove_start (clock target : Nat) (up down : Pair) (r : FadeRecord) :
    (r.setMove clock target up down).start = r.level := rfl

@[simp] theorem FadeRecord.setMove_target (clock target : Nat) (up down : Pair) (r : FadeRecord) :
    (r.setMove clock target up down).target = target := rfl

@[simp] theorem FadeRecord.setMove_origin (clock target : Nat) (up down : Pair) (r : FadeRecord) :
    (r.setMove clock target up down).origin = clock := rfl

@[simp] theorem FadeRecord.setMove_moving (clock target : Nat) (up down : Pair) (r : FadeRecord) :
    (r.setMove clock target up down).moving = (r.level != target) := rfl

/-- The share of a move that lies behind never exceeds the move (R22). -/
theorem fadeChange_le {span x time : Nat} (h : x < time) : fadeChange span x time ≤ span := by
  unfold fadeChange
  have h1 : span * x ≤ span * time := Nat.mul_le_mul_left span (by omega)
  calc (span * x + time / 2) / time ≤ (span * time + time / 2) / time := Nat.div_le_div_right (by omega)
    _ = span := by
      rw [Nat.mul_comm, Nat.mul_add_div (by omega), Nat.div_eq_of_lt (by omega), Nat.add_zero]

@[simp] theorem FadeRecord.evaluate_start (c : Nat) (r : FadeRecord) : (r.evaluate c).start = r.start := by
  unfold FadeRecord.evaluate
  simp only
  (repeat' split) <;> rfl

@[simp] theorem FadeRecord.evaluate_target (c : Nat) (r : FadeRecord) : (r.evaluate c).target = r.target := by
  unfold FadeRecord.evaluate
  simp only
  (repeat' split) <;> rfl

theorem FadeRecord.evaluate_of_not_moving {r : FadeRecord} (h : r.moving = false) (c : Nat) :
    r.evaluate c = r := by
  simp [FadeRecord.evaluate, h]

/-- Every record of an evaluated playback is evaluated at its fade clock (R21). -/
@[simp] theorem Playback.evaluated_get (pb : Playback) (ch : Fin 768) :
    pb.evaluated.records.get ch = (pb.records.get ch).evaluate pb.clock := by
  simp [Playback.evaluated]

/-! ### Rack transmitters (R121, R124) -/

theorem maskRacks_ne_nil {mask : BitVec 4} (h : mask ≠ 0) : ∃ a rest, maskRacks mask = a :: rest := by
  have all : ∀ mask : BitVec 4, mask ≠ 0 → maskRacks mask ≠ [] := by decide
  exact List.exists_cons_of_ne_nil (all mask h)

theorem maskRacks_zero : maskRacks 0 = [] := by decide

theorem maskRacks_pairwise (mask : BitVec 4) : (maskRacks mask).Pairwise fun a b => a < b := by
  revert mask
  decide

theorem Transmitter.takeSet_cases (x : LinkSet) (t : Transmitter) :
    (t.mask = 0 ∧ t.takeSet x =
      { t with state := .idle, current := none, cycle := [], last := some x, refresh := some 0 }) ∨
    ∃ a rest, maskRacks t.mask = a :: rest ∧ t.takeSet x =
      { t with state := .sending a, current := some x, cycle := a :: rest, last := some x, refresh := none } := by
  by_cases h : t.mask = 0
  · left
    refine ⟨h, ?_⟩
    unfold Transmitter.takeSet
    rw [h, maskRacks_zero]
    simp [Transmitter.toIdle]
  · right
    obtain ⟨a, rest, k⟩ := maskRacks_ne_nil h
    exact ⟨a, rest, k, by simp [Transmitter.takeSet, k]⟩

theorem Transmitter.post_cases (x : LinkSet) (t : Transmitter) :
    ((t.enabled = false ∨ t.mask = 0) ∧ t.post x = (t, false)) ∨
    (t.enabled = true ∧ t.mask ≠ 0 ∧ t.state = .idle ∧ t.post x = (t.takeSet x, false)) ∨
    ∃ a, t.enabled = true ∧ t.mask ≠ 0 ∧ t.state = .sending a ∧
      t.post x = ({ t with queued := some x }, t.queued.isSome) := by
  unfold Transmitter.post
  split
  · rename_i h
    simp only [Bool.or_eq_true, Bool.not_eq_true', beq_iff_eq] at h
    exact .inl ⟨h, rfl⟩
  · rename_i h
    simp only [Bool.or_eq_true, Bool.not_eq_true', beq_iff_eq, not_or, Bool.not_eq_false] at h
    split
    · exact .inr (.inl ⟨h.1, h.2, by assumption, rfl⟩)
    · exact .inr (.inr ⟨_, h.1, h.2, by assumption, rfl⟩)

/-! ### The levels of a scan (R42, R74) -/

@[simp] theorem Playback.contribution_get (master : Byte) (pb : Playback) (ch : Fin 768) :
    (pb.contribution master).get ch = scaleBy master (pb.records.get ch).level := by
  simp [Playback.contribution]

theorem channelLevels_get (grandMaster : Byte) (on : Bool) (merged : Table Nat 768) (ch : Fin 768) :
    (channelLevels grandMaster on merged).get ch = if on then 0 else scaleBy grandMaster (merged.get ch) := by
  simp [channelLevels]

@[simp] theorem circuitStep_get (patch : Patch) (bank : Fin 4) (levels : Table Nat 768) (k : Fin 1536) :
    (circuitStep patch bank levels).get k =
      outputStep patch.laws patch.parks k ((patch.banks.get bank).get k) (patch.switches.get k)
        (((patch.banks.get bank).get k).intensity levels) := by
  simp [circuitStep]

end Sys2Proof.Machine
end

