-- ==== Sys2Proof/Laws/Playbacks.lean ====
section
/-! SUPPORT. What the moves, the state and the evaluation of a playback come to, said once: a cue's moves, a
follow below the limit, a playback settled and evaluated in one step (R18, R22, R26, R34). -/

namespace Sys2Proof.Machine

/-- The moves that a cue sets are those of its entries, and every other record stands (R26). -/
theorem cueMoves_set {c : Cue} (h : c.entries.Pairwise fun a b => a.channel < b.channel) (clock : Nat)
    (rs : Table FadeRecord 768) : c.MovesSet clock rs (cueMoves clock c rs) := by
  unfold Cue.MovesSet cueMoves
  generalize (⟨c.upDelay, c.upTime⟩ : Pair) = up
  generalize (⟨c.downDelay, c.downTime⟩ : Pair) = down
  generalize c.entries = es at h
  induction es generalizing rs with
  | nil => simp
  | cons e es ih =>
    obtain ⟨first, rest⟩ := List.pairwise_cons.mp h
    obtain ⟨a, b⟩ := ih (rs.set e.channel ((rs.get e.channel).setMove clock (expand e.level) up down)) rest
    simp only [List.foldl_cons]
    refine ⟨fun x hx => ?_, fun ch hch => ?_⟩
    · obtain rfl | hx := List.mem_cons.mp hx
      · rw [b _ fun y hy => ne_of_gt (first y hy), Table.get_set, if_pos rfl]
      · rw [a x hx, Table.get_set, if_neg (ne_of_lt (first x hx))]
    · rw [b ch fun y hy => hch y (List.mem_cons_of_mem _ hy), Table.get_set,
        if_neg (hch e (List.mem_cons_self ..))]

/-- A fade clock value below the limit is the exact sum. -/
theorem fadeClockValue_of_lt {x : Nat} (h : x < 2 ^ 64) : fadeClockValue x = x :=
  fadeClockValue_of_le (Nat.le_sub_one_of_lt h)

/-- A follow whose due value is below the limit of the fade clock is due at that value (R26). -/
theorem followDue_of_lt {clock : Nat} {c : Cue} (h : ∀ f ∈ c.follow, clock + f * 100000 < 2 ^ 64) :
    followDue clock c = c.follow.map fun f => clock + f * 100000 := by
  have tenth : Config.usPerTenth = 100000 := rfl
  have exact' := fun f hf => fadeClockValue_of_lt (h f hf)
  simp only [followDue, tenth]
  cases hf : c.follow with
  | none => simp only [Option.map_none]
  | some f => rw [Option.map_some, Option.map_some, exact' f hf]

/-- A playback with a list takes its state from R18 in one step. -/
theorem Playback.settle_eq_settledWith {pb : Playback} (h : pb.loaded.isSome = true)
    (records : Table FadeRecord 768) (current follow : Option Nat) :
    ({ pb with records := records, current := current, follow := follow } : Playback).settle =
      pb.settledWith records current follow := by
  unfold Playback.settle Playback.settledWith Playback.moving
  cases hl : pb.loaded with
  | none => simp [hl] at h
  | some l => cases records.any (·.moving) <;> cases follow <;> simp

/-- A legal playback with a list is not EMPTY, and is resumed in its state alone (R34). -/
theorem Playback.resumed_of_legal {pb : Playback} (h : pb.Legal) (hl : pb.loaded.isSome = true) :
    pb.state ≠ .empty ∧ pb.resumed = { pb with state := pb.resumed.state } := by
  refine ⟨fun e => by simp [h.empty.mp e] at hl, ?_⟩
  unfold Playback.resumed
  split
  · rename_i paused
    unfold Playback.settle
    cases hh : pb.loaded with
    | none => simp [hh] at hl
    | some l =>
      simp only
      split
      · rfl
      · split
        · rfl
        · have := h.paused paused
          simp_all
  · rfl

/-- Records of which none moves are evaluated to themselves (R22). -/
theorem evaluate_of_still {rs : Table FadeRecord 768} (h : rs.any (·.moving) = false) (c : Nat) :
    rs.map (FadeRecord.evaluate c) = rs := by
  refine Table.ext fun i => ?_
  rw [Table.get_map]
  exact FadeRecord.evaluate_of_not_moving (Table.any_eq_false.mp h i) c

/-- A settled playback evaluated at its clock and settled again is settled on the evaluated records (R21). -/
theorem Playback.settle_evaluated {pb : Playback} (h : pb.loaded.isSome = true)
    (records : Table FadeRecord 768) (current follow : Option Nat) :
    ((pb.settledWith records current follow).evaluated).settle =
      pb.settledWith (records.map (FadeRecord.evaluate pb.clock)) current follow := by
  cases hm : records.any (·.moving)
  · rw [evaluate_of_still hm, ← Playback.settle_eq_settledWith h]
    unfold Playback.evaluated Playback.settle Playback.moving
    cases hl : pb.loaded with
    | none => simp [hl] at h
    | some l => cases follow <;> simp [hm, evaluate_of_still hm]
  · have : (pb.settledWith records current follow).evaluated =
        { ({ pb with state := .fading } : Playback) with
          records := records.map (FadeRecord.evaluate pb.clock), current := current, follow := follow } := by
      unfold Playback.evaluated Playback.settledWith
      simp [hm]
    rw [this, Playback.settle_eq_settledWith (by simpa using h)]
    rfl

end Sys2Proof.Machine
end

