-- ==== Sys2Proof/Tests/Slice0.lean ====
section
/-! SUPPORT. Tests of the model against the worked examples of the manual, a smoke test of the
well-formedness checks, and for every obligation with hypotheses a witness that they can be met. Expected
values come from the manual's examples and tables, or from hand calculation with its formulas. -/

namespace Sys2Proof.Machine.Tests

set_option Elab.async false

/-! ### Well-formedness: each check refuses an ill-formed term and admits its boundary -/

theorem test_wf_levels_base : Instr.wellFormed (.levelsFrame .A 0 [1]) = false ∧
    Instr.wellFormed (.levelsFrame .A 769 [1]) = false ∧
    Instr.wellFormed (.levelsFrame .A 768 [1]) = true := by decide +kernel

theorem test_wf_levels_count : Instr.wellFormed (.levelsFrame .A 1 []) = false ∧
    Instr.wellFormed (.levelsFrame .A 1 (List.replicate 256 0)) = false ∧
    Instr.wellFormed (.levelsFrame .A 1 (List.replicate 255 0)) = true := by decide +kernel

theorem test_wf_levels_refused : Instr.wellFormed (.levelsFrameRefused .A 1 1) = false ∧
    Instr.wellFormed (.levelsFrameRefused .A 769 1) = true ∧
    Instr.wellFormed (.levelsFrameRefused .A 1 0) = true := by decide +kernel

theorem test_wf_command_length : Instr.wellFormed (.commandLengthRefused .A 1 1 2400) = false ∧
    Instr.wellFormed (.commandLengthRefused .A 1 1 2401) = true := by decide +kernel

theorem test_wf_command_params :
    Instr.wellFormed (.commandFrame .A 1 1 (List.replicate 2401 0) 0) = false ∧
    Instr.wellFormed (.commandFrame .A 1 1 (List.replicate 2400 0) 0) = true := by decide +kernel

theorem test_wf_header : Instr.wellFormed (.frameHeaderInHunt .A 0x20) = false ∧
    Instr.wellFormed (.frameHeaderInHunt .A 0x1f) = true ∧
    Instr.wellFormed (.frameHeaderInHunt .A 0x40) = true := by decide +kernel

theorem test_wf_law_body : Instr.wellFormed (.loadLaw .A 1 1 1 [0, 0, 0]) = false ∧
    Instr.wellFormed (.loadLaw .A 1 1 2 [8, 0, 4, 0]) = true := by decide +kernel

theorem test_wf_cue_entries :
    Instr.wellFormed (.writeCue .A 1 1 1 0 0 0 0 0 0 0 (List.replicate 795 (1, 0))) = false ∧
    Instr.wellFormed (.writeCue .A 1 1 1 0 0 0 0 0 0 0 (List.replicate 794 (1, 0))) = true := by
  decide +kernel

/-! ### Codes and layouts, written out from R179: one row of each family at least -/

theorem test_layout_playbacks : parse 16 [2] = .request (.go 2) ∧
    parse 17 [1, 0, 20, 255, 255] = .request (.goto 1 20 65535) ∧
    parse 26 [6, 0x17, 0x70, 0, 10] = .request (.setPlaybackTimes 6 6000 10) ∧
    parse 16 [] = .badLength ∧ parse 27 [1] = .unknownCode := by decide +kernel

theorem test_layout_cues :
    parse 32 [3, 0, 10, 0, 30, 0, 50, 0, 0, 0, 0, 255, 255, 0, 0, 0, 1, 0, 2, 128] =
      .request (.writeCue 3 10 30 50 0 0 65535 0 1 [0, 2, 128]) ∧
    parse 33 [3, 0x27, 0x0f] = .request (.deleteCue 3 9999) ∧ parse 32 [3] = .badLength := by
  decide +kernel

theorem test_layout_banks :
    parse 48 [1, 0, 40, 0, 12, 80, 0, 5, 230] = .request (.setCircuit 1 40 12 80 0 5 230) ∧
    parse 51 [4, 2, 2] = .request (.selectBank 4 2 2) ∧ parse 52 [] = .request .cancelSwap := by
  decide +kernel

theorem test_layout_output :
    parse 64 [5, 2, 8, 0, 4, 0] = .request (.loadLaw 5 2 [8, 0, 4, 0]) ∧
    parse 64 [5, 2, 8, 0] = .badLength ∧ parse 65 [3, 132, 128] = .request (.park 900 128) := by
  decide +kernel

theorem test_layout_settings :
    parse 81 [1, 3, 232, 2, 0, 30, 0, 0] = .request (.setDesk 1 1000 2 30 0 0) ∧
    parse 82 [3, 0, 15] = .request (.setLink 3 0 15) ∧ parse 80 [10] = .request (.setScan 10) := by
  decide +kernel

theorem test_layout_triggers :
    parse 97 [1, 1, 0, 0, 0x13, 0x88, 0, 0, 0, 0] = .request (.setClock 1 1 5000 0) ∧
    parse 99 [1, 0, 40, 0, 25, 1] = .request (.setWatch 1 40 0 25 1) ∧
    parse 100 [2, 1, 8, 1, 1, 3] = .request (.setRoute 2 1 8 1 1 3) := by decide +kernel

theorem test_layout_management :
    parse 112 [10] = .request (.takeReports 10) ∧ parse 114 [0x81, 0] = .request (.clearFlags 0x8100) ∧
    parse 120 [] = .request .store ∧ parse 136 [] = .request .readTriggers ∧
    parse 130 [1, 0, 12] = .request (.readPlayback 1 12) := by decide +kernel

/-- 11.2.1: the check of GO on Playback 2 with tag 11 is 30. -/
theorem test_command_check : frameCheck 11 16 [2] = 30 ∧
    commandFrameBytes 11 16 [2] 30 = [11, 16, 0, 1, 2, 0, 30] := by decide +kernel

/-- 11.2.1: the reply to it, header first, with check 56. -/
theorem test_reply_frame : replyFrame ⟨.final, 11, 16, .done, 1, [2, 2, 0, 20]⟩ =
    ⟨0x80, true, true⟩ ::
      ([11, 16, 0, 1, 0, 4, 2, 2, 0, 20, 0, 56].map fun b => ⟨b, false, true⟩) := by decide +kernel

/-- R180: a report's eight bytes; 10.5.2, STORE DONE with detail 1,447. -/
theorem test_report_bytes : reportBytes ⟨⟨.storeDone, 0, 1447⟩, 81450⟩ =
    [13, 0, 5, 167, 0, 1, 62, 42] := by decide +kernel

/-- R180: no code beyond the named ones is read as a value. -/
theorem test_codes_end : Rights.ofCode 2 = some .none ∧ Rights.ofCode 3 = Option.none ∧
    LossAction.ofCode 3 = none ∧ Merge.ofCode 2 = none ∧ Edge.ofCode 4 = none ∧
    ClockMode.ofCode 3 = none ∧ Condition.ofCode 2 = none ∧ ClockAction.ofCode 4 = none ∧
    Task.ofCode 12 1 = none ∧ Source.ofCode 3 1 = none ∧ Source.ofCode 7 99 = some .swapDone := by
  decide +kernel

/-! ### Arithmetic of the worked examples -/

/-- Playbacks 2.3.1 and 2.14.1: cue levels on the intensity scale; Desk Links 3.10.1 and 3.10.2. -/
theorem test_expand : expand 204 = 3276 ∧ expand 51 = 819 ∧ expand 128 = 2056 ∧ expand 255 = 4095 ∧
    expand 20 = 321 ∧ expand 220 = 3533 := by decide

/-- Playbacks 2.3.1: scans 1, 51, 120, 349 and 350 after the GO. -/
theorem test_fade_up :
    let r : FadeRecord := ⟨0, 0, 3276, 500000, 3000000, 0, true⟩
    (r.evaluate 10000).level = 0 ∧ (r.evaluate 510000).level = 11 ∧ (r.evaluate 1200000).level = 764 ∧
    (r.evaluate 3490000).level = 3265 ∧ r.evaluate 3500000 = { r with level := 3276, moving := false } := by
  decide

/-- Playbacks 2.14.1: a downward fade, scans 1, 100 and 400. -/
theorem test_fade_down :
    let r : FadeRecord := ⟨3276, 3276, 819, 0, 2000000, 0, true⟩
    (r.evaluate 5000).level = 3270 ∧ (r.evaluate 500000).level = 2662 ∧
    (r.evaluate 2000000).level = 819 := by decide

/-- Playbacks 2.14.1 and The Scan 4.10.1: contributions and channel levels. -/
theorem test_scale : scaleBy 128 3270 = 1641 ∧ scaleBy 128 2662 = 1336 ∧ scaleBy 128 819 = 411 ∧
    scaleBy 191 1606 = 1203 ∧ scaleBy 191 1336 = 1001 ∧ scaleBy 191 764 = 572 ∧ scaleBy 0 1606 = 0 := by
  decide

/-- Desk Links 3.10.2: channel 5 at e = 1,200 and 1,500 of 3,000. -/
theorem test_loss_fade : fadedLevel 1200 3000 3212 = 1927 ∧ fadedLevel 1200 3000 1606 = 964 ∧
    fadedLevel 1500 3000 3212 = 1606 ∧ fadedLevel 3000 3000 3212 = 0 := by decide

/-- Output Stage 6.8.1 and Rack Links 7.9.1: Law 0. -/
theorem test_linear : linearValue 458 = 29 ∧ linearValue 572 = 36 ∧ linearValue 4095 = 255 := by decide

/-- Output Stage 6.8.1 and 6.8.2: rising, falling and level segments. -/
theorem test_curve :
    curveValue ((Table.fill 17 0).set 1 40 |>.set 2 70) 458 = 64 ∧
    curveValue ((Table.fill 17 0).set 4 60 |>.set 5 100) 1100 = 72 ∧
    curveValue ((Table.fill 17 0).set 4 100 |>.set 5 60) 1100 = 88 ∧
    curveValue ((Table.fill 17 0).set 4 80 |>.set 5 80) 1100 = 80 := by decide +kernel

/-- Output Stage 6.8.3: the switch law at the steps that decide. -/
theorem test_switch_law :
    let laws : Table Law 8 := (Table.fill 8 .linear).set 5 (.switch 2048 1024)
    let r : CircuitRecord := ⟨some 0, 100, 5, 30, 200⟩
    outputStep laws [] 299 r false 1500 = ⟨1500, 0, false, false⟩ ∧
    outputStep laws [] 299 r false 2048 = ⟨2048, 255, true, false⟩ ∧
    outputStep laws [] 299 r true 1500 = ⟨1500, 255, true, false⟩ ∧
    outputStep laws [⟨299, 100⟩] 299 r true 900 = ⟨900, 100, true, true⟩ ∧
    outputStep laws [] 299 r true 1000 = ⟨1000, 0, false, false⟩ := by decide +kernel

/-- Patch Banks 5.5.1: circuit 40 through the patch. -/
theorem test_intensity :
    CircuitRecord.intensity ⟨some 11, 80, 0, 5, 230⟩ (Table.fill 768 572) = 458 ∧
    CircuitRecord.intensity ⟨some 11, 50, 0, 5, 230⟩ (Table.fill 768 572) = 286 ∧
    CircuitRecord.intensity ⟨none, 100, 0, 0, 255⟩ (Table.fill 768 572) = 0 := by decide +kernel

/-- Cue Store 1.7.2: tracked states of List 3 after step 5. -/
theorem test_tracked :
    let l : CueList :=
      [⟨10, 30, 50, 0, 0, none, none, [⟨0, 255⟩, ⟨1, 128⟩]⟩, ⟨15, 0, 0, 0, 0, none, none, [⟨0, 0⟩]⟩,
        ⟨20, 0, 0, 0, 0, none, none, [⟨2, 96⟩]⟩,
        ⟨30, 0, 0, 0, 0, none, some 10, [⟨1, 0⟩, ⟨3, 50⟩]⟩]
    l.tracked 15 0 = 0 ∧ l.tracked 15 1 = 128 ∧ l.tracked 20 2 = 96 ∧ l.tracked 20 3 = 0 ∧
    l.tracked 30 1 = 0 ∧ l.tracked 30 3 = 50 ∧ (nextCue l (some 30)).map (·.number) = some 10 := by
  decide +kernel

/-- Rack Links 7.9.1: one frame, with sum 64. -/
theorem test_rack_frame :
    let x : LinkSet := ((Table.fill 384 0).set 0 255 |>.set 39 29 |>.set 40 36)
    let t : Transmitter := ⟨true, 15, .sending 0, some x, [0, 1, 2, 3], none, some x, none⟩
    t.frame = some (⟨0x20, true, true⟩ ::
      ([255] ++ List.replicate 38 0 ++ [29, 36] ++ List.replicate 55 0 ++ [64]).map fun b => ⟨b, false, true⟩) := by
  decide +kernel

/-- R174: the eleven bits of a RACK LEVELS header of rack 2, and of an unmarked 3. -/
theorem test_character_bits :
    (Character.mk 0x22 true true).bits =
      [false, false, true, false, false, false, true, false, false, true, true] ∧
    (Character.mk 3 false true).bits =
      [false, true, true, false, false, false, false, false, false, false, true] := by decide +kernel

/-- R178: an absent subject and an absent target each follow a byte of presence of 0. -/
theorem test_route_bytes : routeBytes ⟨true, .swapDone, .blackoutOn, false⟩ = [1, 7, 0, 0, 9, 0, 0, 0] ∧
    routeBytes ⟨true, .contact 0, .go 2, true⟩ = [1, 8, 1, 1, 1, 1, 3, 1] := by decide +kernel

/-- The reset value of Laws 1 to 7 (R114): Pi = (i × 255 + 8) div 16, at i = 1, 8 and 16. -/
theorem test_factory_curve : (match Law.factoryCurve with
    | .curve p => some (p.get 1, p.get 8, p.get 16)
    | _ => none) = some (16, 128, 255) := by decide +kernel

/-! ### One step each, from the state after reset or one field away from it -/

/-- The outcome and data of the newest reply in a desk's list. -/
def newest (d : Desk) : Host.Outcome State Fault Refusal → Option (Result × List Byte)
  | .next s => ((s.desk d).port.replies.getLast?).map fun r => (r.result, r.data)
  | _ => none

/-- What a test looks at in the state that follows. -/
def seen {α : Type} (f : State → α) : Host.Outcome State Fault Refusal → Option α
  | .next s => some (f s)
  | _ => none

/-- The outcome and data of a request sent by Desk A. -/
def asked (i : Instr) (s : State) : Option (Result × List Byte) := newest .A (exec i s)

theorem test_go_empty : asked (.go .A 7 1) State.reset = some (.wrongState, []) ∧
    asked (.go .A 7 0) State.reset = some (.noSuch, []) := by decide +kernel

theorem test_goto_empty : asked (.goto .A 7 6 1 65535) State.reset = some (.wrongState, []) ∧
    asked (.goto .A 7 7 1 65535) State.reset = some (.noSuch, []) := by decide +kernel

theorem test_back_empty : asked (.back .A 7 1) State.reset = some (.wrongState, []) := by decide +kernel

theorem test_pause_resume_empty : asked (.pause .A 7 1) State.reset = some (.wrongState, []) ∧
    asked (.resume .A 7 1) State.reset = some (.wrongState, []) := by decide +kernel

theorem test_release_empty : asked (.release .A 7 1) State.reset = some (.done, [0, 0, 0, 0]) := by
  decide +kernel

theorem test_load_list : asked (.loadList .A 7 1 3) State.reset = some (.done, [1, 3, 0, 0]) ∧
    asked (.loadList .A 7 1 9) State.reset = some (.noSuch, []) := by decide +kernel

theorem test_unload_empty : asked (.unload .A 7 6) State.reset = some (.done, [0, 0, 0, 0]) := by
  decide +kernel

theorem test_set_master :
    seen (fun s => (s.playbacks.get 1).master) (exec (.setMaster .A 7 2 128) State.reset) = some 128 := by
  decide +kernel

/-- R40: 500 is taken as 400. -/
theorem test_set_rate : asked (.setRate .A 7 1 500) State.reset = some (.done, [0, 0, 0, 0, 1, 144]) := by
  decide +kernel

theorem test_set_times : asked (.setPlaybackTimes .A 7 1 6001 0) State.reset = some (.outOfRange, []) ∧
    asked (.setPlaybackTimes .A 7 1 6000 0) State.reset = some (.done, [0, 0, 0, 0]) := by decide +kernel

/-- Cue Store 1.7.1, step 1: INSERTED, one cue and two entries. -/
theorem test_write_cue :
    asked (.writeCue .A 7 3 10 30 50 0 0 65535 0 2 [(1, 255), (2, 128)]) State.reset =
      some (.done, [0, 0, 1, 0, 1, 0, 2]) := by decide +kernel

/-- R7: the entry count, the order of channels, and the ranges. -/
theorem test_write_cue_checks :
    asked (.writeCue .A 7 3 10 30 50 0 0 65535 0 1 [(1, 255), (2, 128)]) State.reset =
      some (.badRequest, []) ∧
    asked (.writeCue .A 7 3 10 30 50 0 0 65535 0 2 [(2, 255), (2, 128)]) State.reset =
      some (.badRequest, []) ∧
    asked (.writeCue .A 7 3 10000 30 50 0 0 65535 0 0 []) State.reset = some (.outOfRange, []) := by
  decide +kernel

theorem test_delete_cue : asked (.deleteCue .A 7 3 20) State.reset = some (.noSuch, []) ∧
    asked (.deleteCue .A 7 3 0) State.reset = some (.outOfRange, []) := by decide +kernel

theorem test_clear_list : asked (.clearList .A 7 8) State.reset = some (.done, [0, 0, 0, 0, 0, 0]) := by
  decide +kernel

/-- Bank 1 is active: the edit is hot, and the law number does not change (R93). -/
theorem test_set_circuit : asked (.setCircuit .A 7 1 40 12 80 0 5 230) State.reset =
    some (.done, [0, 12, 80, 0, 5, 230, 1, 0]) ∧
    asked (.setCircuit .A 7 1 40 12 101 3 5 230) State.reset =
      some (.done, [0, 12, 100, 3, 5, 230, 1, 1]) := by decide +kernel

theorem test_set_circuit_range : asked (.setCircuit .A 7 1 1537 12 80 0 5 230) State.reset =
    some (.outOfRange, []) ∧ asked (.setCircuit .A 7 5 1 12 80 0 5 230) State.reset =
    some (.noSuch, []) := by decide +kernel

theorem test_copy_bank : asked (.copyBank .A 7 1 5) State.reset = some (.noSuch, []) := by decide +kernel

theorem test_clear_bank : asked (.clearBank .A 7 0) State.reset = some (.noSuch, []) := by decide +kernel

/-- Patch Banks 5.5.3: Bank 4, AT GO 2, not due, none replaced; Bank 7. -/
theorem test_select_bank : asked (.selectBank .A 7 4 2 2) State.reset =
    some (.done, [4, 2, 1, 2, 0, 0, 0, 0]) ∧
    asked (.selectBank .A 7 7 1 0) State.reset = some (.noSuch, []) := by decide +kernel

theorem test_cancel_swap : asked (.cancelSwap .A 7) State.reset = some (.wrongState, []) := by
  decide +kernel

theorem test_load_law : asked (.loadLaw .A 7 0 2 [8, 0, 4, 0]) State.reset = some (.notPermitted, []) ∧
    asked (.loadLaw .A 7 5 2 [4, 0, 4, 0]) State.reset = some (.outOfRange, []) := by decide +kernel

/-- Output Stage 6.8.4: the first PARK, and PARK 1537. -/
theorem test_park : asked (.park .A 7 900 128) State.reset = some (.done, [0, 0, 0, 1]) ∧
    asked (.park .A 7 1537 10) State.reset = some (.outOfRange, []) := by decide +kernel

theorem test_unpark : asked (.unpark .A 7 13) State.reset = some (.noSuch, []) ∧
    asked (.unparkAll .A 7) State.reset = some (.done, [0]) := by decide +kernel

theorem test_grand_master : asked (.setGrandMaster .A 7 191) State.reset = some (.done, [191]) ∧
    asked (.blackout .A 7 2) State.reset = some (.done, [1]) := by decide +kernel

theorem test_set_scan : asked (.setScan .A 7 60) State.reset = some (.done, [40]) ∧
    asked (.setScan .A 7 0) State.reset = some (.done, [4]) := by decide +kernel

theorem test_set_desk : asked (.setDesk .A 7 1 1000 2 30 0 1) State.reset = some (.notPermitted, []) ∧
    asked (.setDesk .A 7 2 50 2 700 0 2) State.reset = some (.done, [0, 100, 2, 2, 88, 0, 2]) := by
  decide +kernel

theorem test_set_desk_rights_range : asked (.setDesk .A 7 2 50 2 700 0 3) State.reset =
    some (.outOfRange, []) := by decide +kernel

theorem test_set_link : asked (.setLink .A 7 3 0 15) State.reset = some (.done, [0, 15, 0, 0, 0, 0]) ∧
    asked (.setLink .A 7 3 1 16) State.reset = some (.outOfRange, []) := by decide +kernel

theorem test_set_contact : asked (.setContact .A 7 1 3 255) State.reset = some (.done, [3, 250, 0]) ∧
    asked (.setContact .A 7 1 4 20) State.reset = some (.outOfRange, []) := by decide +kernel

theorem test_set_clock :
    asked (.setClock .A 7 1 1 5000 0) State.reset =
      some (.done, [1, 0, 0, 19, 136, 0, 0, 0, 0, 0, 0, 0, 0, 0]) ∧
    asked (.setClock .A 7 1 1 0x1000000 0) State.reset = some (.outOfRange, []) := by decide +kernel

theorem test_clock_action : asked (.clockAction .A 7 1 0) State.reset = some (.done, [1, 0, 0, 0, 0]) ∧
    asked (.clockAction .A 7 1 3) State.reset = some (.wrongState, []) := by decide +kernel

theorem test_set_watch : asked (.setWatch .A 7 1 40 0 25 1) State.reset = some (.done, []) ∧
    seen (fun s => (s.triggers.watches.get 0).state) (exec (.setWatch .A 7 1 40 0 25 1) State.reset) =
      some .priming := by decide +kernel

theorem test_set_route : asked (.setRoute .A 7 2 1 8 1 1 3) State.reset = some (.done, []) ∧
    asked (.setRoute .A 7 2 1 3 1 1 3) State.reset = some (.outOfRange, []) := by decide +kernel

theorem test_take_reports : asked (.takeReports .A 7 10) State.reset = some (.done, [0, 0]) := by
  decide +kernel

theorem test_report_mask : asked (.setReportMask .A 7 0xffff) State.reset = some (.done, [63, 255]) ∧
    asked (.clearFlags .A 7 0xffff) State.reset = some (.done, [0, 0, 0, 0]) := by decide +kernel

/-- Management Requests 9.9.3: STARTED, with STORING and MEMORY INVALID in the reply's flags. -/
theorem test_store : asked (.store .A 30) State.reset = some (.started, [0, 0, 0, 0]) ∧
    seen (fun s => s.deskA.port.replies.map (·.flags)) (exec (.store .A 30) State.reset) = some [12] := by
  decide +kernel

theorem test_restart : asked (.restart .A 7) State.reset = some (.done, []) ∧
    seen (fun s => s.processor.state) (exec (.restart .A 7) State.reset) = some (.executing .A) := by
  decide +kernel

/-- Management Requests 9.9.1: LOAD LIST from Desk B with PLAYBACK rights. -/
theorem test_rights : newest .B (exec (.loadList .B 41 1 1) State.reset) = some (.notPermitted, []) ∧
    newest .B (exec (.setMaster .B 40 2 9) State.reset) = some (.done, [0, 0, 0, 0]) := by decide +kernel

theorem test_read_playback : asked (.readPlayback .A 7 1 0) State.reset =
    some (.done, [0, 0, 0, 0, 0, 0, 0, 0, 0, 0, 0, 0, 0, 0, 0, 0, 0, 0, 0, 0, 0, 255, 0, 100, 0, 20, 0, 10,
      0, 0]) := by decide +kernel

theorem test_read_desk : asked (.readDesk .A 7 2 0) State.reset =
    some (.done, [0, 3, 232, 0, 0, 30, 0, 1] ++ List.replicate 30 0) := by decide +kernel

theorem test_read_channel : asked (.readChannel .A 7 0) State.reset = some (.outOfRange, []) ∧
    asked (.readCircuit .A 7 0) State.reset = some (.done, [0, 0, 0, 0]) := by decide +kernel

theorem test_read_cue : asked (.readCue .A 7 3 0) State.reset =
    some (.done, [0, 0, 0, 0, 0, 0, 0, 0, 0, 0]) ∧
    asked (.readCue .A 7 3 20) State.reset = some (.noSuch, []) := by decide +kernel

theorem test_read_bank_entry : asked (.readBankEntry .A 7 1 40) State.reset =
    some (.done, [0, 0, 100, 0, 0, 255, 1]) := by decide +kernel

theorem test_read_law : asked (.readLaw .A 7 0) State.reset = some (.done, [0, 6, 0]) ∧
    asked (.readLaw .A 7 8) State.reset = some (.noSuch, []) := by decide +kernel

theorem test_reads_of_the_whole_part :
    (asked (.readStatus .A 7) State.reset).map (fun x => x.2.take 13) =
      some [0, 0, 0, 0, 0, 0, 0, 2, 0, 0, 1, 0, 1] ∧
    (asked (.readTriggers .A 7) State.reset).map (fun x => x.2.take 18) =
      some [0, 20, 0, 0, 0, 0, 0, 0, 0, 0, 20, 0, 0, 0, 0, 0, 0, 0] := by decide +kernel

/-! ### Occurrences -/

/-- Desk Links 3.10.1, steps 15 and 16. -/
theorem test_levels_frame :
    seen (fun s => (s.deskA.monitor.live.get 766, s.deskA.monitor.live.get 767,
        s.deskA.monitor.refreshInterval, s.deskA.monitor.state))
      (exec (.levelsFrame .A 767 [10, 20, 30]) State.reset) = some (160, 321, none, .active) := by
  decide +kernel

/-- Desk Links 3.10.1, step 11, and the checks of R50 and R52: one error each. -/
theorem test_refused_frames :
    seen (fun s => s.deskA.receiver) (exec (.commandLengthRefused .A 9 1 3000) State.reset) =
      some ⟨.hunt, 1⟩ ∧
    seen (fun s => s.deskA.receiver) (exec (.levelsFrameRefused .A 769 1) State.reset) =
      some ⟨.hunt, 1⟩ ∧
    seen (fun s => s.deskA.receiver) (exec (.commandFrame .A 11 16 [2] 31) State.reset) =
      some ⟨.hunt, 1⟩ := by decide +kernel

/-- Desk Links 3.10.1, steps 7, 13 and 18. -/
theorem test_marked_characters :
    seen (fun s => s.deskA.receiver)
        (exec (.markedCharacterInFrame .A 0x40) (State.reset.setReceiver .A ⟨.inFrame .levels [0, 1], 0⟩)) =
      some ⟨.inFrame .command [], 1⟩ ∧
    seen (fun s => s.deskA.receiver) (exec (.frameHeaderInHunt .A 0x80) State.reset) = some ⟨.hunt, 0⟩ ∧
    seen (fun s => s.deskA.receiver)
        (exec (.framingError .A false 0) (State.reset.setReceiver .A ⟨.hunt, 2⟩)) =
      some ⟨.hunt, 3⟩ := by decide +kernel

/-- A COMMAND frame carries GO on Playback 2 to its owner (11.2.1). -/
theorem test_command_frame : asked (.commandFrame .A 11 16 [2] 30) State.reset =
    some (.wrongState, []) := by decide +kernel

/-- Desk A ACTIVE with its last LEVELS frame at the given time, and the show clock at another. -/
def desk (last now : Time) (x : DeskSettings) : State :=
  { State.reset.setMonitor .A { Monitor.afterReset x with state := .active, lastLevels := some last } with
    showClock := now }

/-- Desk Links 3.10.2, step 1. -/
theorem test_desk_timeout :
    seen (fun s => (s.deskA.monitor.state, s.deskA.monitor.loss, s.deskA.monitor.fadeRunning,
        s.reports.queue.map (·.event)))
      (exec (.deskTimeout .A) (desk 50000 51000 ⟨1000, .fade, 30, .htp, .full⟩)) =
      some (.lost, some ⟨51000, .fade, 3000⟩, true, [⟨.deskLost, 1, 2⟩]) ∧
    seen (fun s => s.deskA.monitor.state)
      (exec (.deskTimeout .A) (desk 50000 50999 ⟨1000, .fade, 30, .htp, .full⟩)) = some .active := by
  decide +kernel

/-- Desk Links 3.10.2, the fade with no return: it expires at 54,000. -/
theorem test_loss_fade_expiry :
    let m : Monitor := { Monitor.afterReset ⟨1000, .fade, 30, .htp, .full⟩ with
      state := .lost, loss := some ⟨51000, .fade, 3000⟩, fadeRunning := true, live := Table.fill 768 1606 }
    let s := fun now => { State.reset.setMonitor .A m with showClock := now }
    seen (fun s => (s.deskA.monitor.state, s.deskA.monitor.fadeRunning, s.deskA.monitor.live.get 5))
      (exec (.lossFadeExpiry .A) (s 54000)) = some (.lost, false, 0) ∧
    seen (fun s => s.deskA.monitor.live.get 5) (exec (.lossFadeExpiry .A) (s 53999)) = some 1606 := by
  decide +kernel

theorem test_reply_sent : seen (fun s => s.deskA.port)
    (exec (.replySent .A)
      (State.reset.setPort .A ⟨.answering ⟨1, 16, [1]⟩, [⟨.final, 1, 16, .done, 0, []⟩]⟩)) =
    some ⟨.empty, []⟩ := by decide +kernel

theorem test_scan_start : seen (fun s => (s.level.phase, s.level.timer))
    (exec .scanStart { State.reset with level := { State.reset.level with timer := 0 } }) =
      some (.computing, 10) ∧
    seen (fun s => s.level.phase) (exec .scanStart State.reset) = some .waiting := by decide +kernel

theorem test_compute_end : seen (fun s => s.level.phase)
    (exec .computeEnd { State.reset with level := { State.reset.level with phase := .computing } }) =
      some .waiting := by decide +kernel

/-- Rack Links 7.9.2 and 7.9.4: the next rack of the mask, and the disable during a cycle. -/
theorem test_rack_frame_end :
    let x : LinkSet := Table.fill 384 0
    let t : Transmitter := ⟨true, 5, .sending 0, some x, [0, 2], none, some x, none⟩
    seen (fun s => (s.links.get 1).state) (exec (.rackFrameEnd 1) (State.reset.setLink 1 t)) =
      some (.sending 2) ∧
    seen (fun s => ((s.links.get 1).state, (s.links.get 1).last.isSome))
      (exec (.rackFrameEnd 1) (State.reset.setLink 1 { t with enabled := false })) =
      some (.idle, false) := by decide +kernel

theorem test_refresh :
    let x : LinkSet := Table.fill 384 0
    let t : Transmitter := ⟨true, 5, .idle, none, [], none, some x, some 100⟩
    seen (fun s => ((s.links.get 1).state, (s.links.get 1).refresh))
      (exec (.refresh 1) (State.reset.setLink 1 t)) = some (.sending 0, none) ∧
    seen (fun s => (s.links.get 1).state)
      (exec (.refresh 1) (State.reset.setLink 1 { t with refresh := some 99 })) = some .idle := by
  decide +kernel

/-- Cue Triggers 8.7.1. -/
theorem test_contact :
    let x : Contact := ⟨.rising, 20, false, false, none⟩
    seen (fun s => (s.triggers.contacts.get 0).timer)
      (exec (.contactInputChange 0 true) (State.reset.setContact 0 x)) = some (some 0) ∧
    seen (fun s => ((s.triggers.contacts.get 0).accepted, s.reports.queue.map (·.event)))
      (exec (.debounceExpiry 0) (State.reset.setContact 0 { x with input := true, timer := some 20 })) =
      some (true, [⟨.contact, 1, 1⟩]) := by decide +kernel

/-- Cue Triggers 8.7.2: at 15,000 ms and, after STOP AT MATCH, at 25,000 ms. -/
theorem test_clock_match :
    let x : CueClock := ⟨.repeat, 5000, 0, 4999, .running, true⟩
    seen (fun s => (s.triggers.clocks.get 0, s.reports.queue.map (·.event)))
      (exec (.clockMatch 0) (State.reset.setClock 0 x)) =
      some (⟨.repeat, 5000, 0, 0, .running, false⟩, [⟨.clock, 1, 1⟩]) ∧
    seen (fun s => (s.triggers.clocks.get 0, s.reports.queue.map (·.event)))
      (exec (.clockMatch 0) (State.reset.setClock 0 { x with state := .stopping })) =
      some (⟨.repeat, 5000, 0, 5000, .stopped, false⟩, [⟨.clock, 1, 0⟩]) := by decide +kernel

/-- Reports and Show Memory 10.5.2: STORE DONE after 1,447 ms. -/
theorem test_store_ends :
    let s := { State.reset with memory := .storing Image.factory 80003, showClock := 81450 }
    seen (fun s => (s.memory.isValid, s.reports.queue.map (·.event))) (exec .storeDone s) =
      some (true, [⟨.storeDone, 0, 1447⟩]) ∧
    seen (fun s => (s.memory.isValid, s.reports.queue.map (·.event))) (exec .storeFailed s) =
      some (false, [⟨.storeFailed, 0, 0⟩]) := by decide +kernel

theorem test_power_on : seen (fun s => (s.showClock, s.level.period, s.processor.served))
    (exec .powerOn { State.reset with showClock := 5 }) = some (0, 10, .B) := by decide +kernel

theorem test_tick : seen (fun s => (s.showClock, s.level.timer)) (exec .showClockTick State.reset) =
    some (1, 9) ∧
    seen (fun s => s.showClock)
      (exec .showClockTick { State.reset with showClock := 0xffffffff }) = some 0 := by decide +kernel

theorem test_restart_carried_out :
    seen (fun s => (s.processor.state, s.deskA.port, s.showClock))
      (exec .restartCarriedOut
        { State.reset.setPort .A ⟨.answering ⟨1, 121, []⟩, [⟨.restart, 1, 121, .done, 0, []⟩]⟩ with
          processor := ⟨.executing .A, .A⟩, showClock := 9 }) =
      some (.idle, ⟨.empty, []⟩, 0) := by decide +kernel

/-- The queue is first in, first out, and an empty queue idles. -/
theorem test_queue :
    seen (fun s => s.pending) (step { State.reset with pending := [.showClockTick, .scanStart] }) =
      some [.scanStart] ∧
    seen (fun s => s.showClock) (step State.reset) = some 0 := by decide +kernel

/-! ### Witnesses: for every obligation with hypotheses, values that meet them, clause by clause -/

/-- A request of Desk A that arrives at an idle processor between scans, with no store in progress. -/
theorem takes {d : Desk} {r : Request} {s : State}
    (h : (s.desk d).port.buffer = .empty ∧ s.processor.state = .idle ∧
      (s.desk d.other).port.buffer.waitingCommand = none ∧ r.fits = true ∧ s.permits d r.code = true ∧
      (r.changesStored && s.memory.isStoring) = false ∧ (s.level.phase = .waiting ∨ r.isHeld s = false)) :
    TakenAtOnce d r s :=
  ⟨⟨h.1, h.2.1, h.2.2.1⟩, h.2.2.2.1, h.2.2.2.2.1, h.2.2.2.2.2.1, h.2.2.2.2.2.2⟩

/-- After reset every request of Desk A that fits its layout is taken at once. -/
theorem resetTakes (r : Request) (h : r.fits = true) : TakenAtOnce .A r State.reset :=
  ⟨⟨rfl, rfl, rfl⟩, h, rfl, by rw [Bool.and_eq_false_iff]; exact .inr rfl, .inl rfl⟩

/-- A cue of one entry: channel 1 at a level, with up and down times of one second. -/
def cue (number : Nat) (level : Byte) (follow link : Option Nat) : Cue :=
  ⟨number, 10, 10, 0, 0, follow, link, [⟨0, level⟩]⟩

/-- List 1: cue 2 links to cue 9, which is missing; cue 3 is the last. -/
def list1 : CueList := [cue 1 255 (some 5) none, cue 2 128 none (some 9), cue 3 0 none none]

/-- Playback 1 at rest in List 1 on a current cue. -/
def atRest (current : Option Nat) : Playback :=
  { Playback.afterReset (some 0) 20 10 with current := current }

/-- Playback 1 in a state with channel 1 moving from 0 to 4095 over 1 s from clock 0. -/
def onTheMove (state : PlaybackState) (current follow : Option Nat) (clock : Nat) : Playback :=
  { atRest current with
    state := state
    clock := clock
    follow := follow
    records := (Table.fill 768 .cleared).set 0 ⟨0, 0, 4095, 0, 1000000, 0, true⟩ }

/-- Playback 1 in WAITING with a pending follow. -/
def waitingFor (due clock : Nat) : Playback :=
  { atRest (some 1) with state := .waiting, follow := some due, clock := clock }

/-- The part with Playback 1 as given and List 1 as above. -/
def show1 (pb : Playback) : State := (State.reset.setPlayback 0 pb).setList 0 list1

theorem showTakes (pb : Playback) (r : Request) (h : r.fits = true) : TakenAtOnce .A r (show1 pb) :=
  ⟨⟨rfl, rfl, rfl⟩, h, rfl, by rw [Bool.and_eq_false_iff]; exact .inr rfl, .inl rfl⟩

/-- R18 checked on one playback. -/
def legal (pb : Playback) : Bool :=
  decide (pb.state = .empty ↔ pb.loaded = none) &&
  decide (pb.state = .empty → pb.current = none ∧ pb.follow = none ∧ pb.records = Table.fill 768 .cleared) &&
  decide (pb.state = .idle → pb.moving = false ∧ pb.follow = none ∧ pb.clock = 0) &&
  decide (pb.state = .fading → pb.moving = true) &&
  decide (pb.state = .waiting → pb.moving = false ∧ pb.follow.isSome = true) &&
  decide (pb.state = .paused → pb.moving = true ∨ pb.follow.isSome = true) &&
  decide (25 ≤ pb.rate ∧ pb.rate ≤ 400) &&
  decide (pb.releaseTime ≤ 6000 ∧ pb.backTime ≤ 6000) && decide (pb.clock ≤ 2 ^ 64 - 1)

theorem legal_sound {pb : Playback} (h : legal pb = true) : pb.Legal := by
  simp only [legal, Bool.and_eq_true, decide_eq_true_eq] at h
  obtain ⟨⟨⟨⟨⟨⟨⟨⟨a, b⟩, c⟩, d⟩, e⟩, f⟩, g⟩, i⟩, j⟩ := h
  exact ⟨a, b, c, d, e, f, g, i, j⟩

/-- One playback of each state is legal. -/
theorem test_legal_playbacks : (Playback.afterReset none 20 10).Legal ∧ (atRest none).Legal ∧
    (atRest (some 3)).Legal ∧ (onTheMove .fading (some 1) (some 500000) 0).Legal ∧
    (onTheMove .paused (some 1) none 5).Legal ∧ (waitingFor 500000 400000).Legal :=
  ⟨legal_sound (by decide +kernel), legal_sound (by decide +kernel), legal_sound (by decide +kernel),
    legal_sound (by decide +kernel), legal_sound (by decide +kernel), legal_sound (by decide +kernel)⟩

theorem test_witness_RequestFrameDoesWhatItsRowDoes :
    Instr.wellFormed (.loadLaw .A 1 5 2 [8, 0, 4, 0]) = true ∧
    Instr.request (.loadLaw .A 1 5 2 [8, 0, 4, 0]) = some (.A, 1, .loadLaw 5 2 [8, 0, 4, 0]) ∧
    (State.reset.desk .A).receiver.state = .hunt ∧
    ((State.reset.setReceiver .A ⟨.inFrame .command [], 0⟩).desk .A).receiver.state =
      .inFrame .command [] := by decide +kernel

theorem test_witness_ChecksAndRightsDecideInOrder :
    Free .A State.reset ∧ Free .B State.reset ∧ (State.reset.desk .B).receiver.state = .hunt ∧
    (List.replicate 2400 (0 : Byte)).length ≤ 2400 ∧ State.reset.permits .B 32 = false ∧
    (State.reset.permits .A 27 = true ∧ (27 : Byte).toNat ∉ knownCodes) ∧
    (State.reset.permits .A 16 = true ∧ (16 : Byte).toNat ∈ knownCodes ∧ layout 16 [] = none) ∧
    (let s := { State.reset with memory := .storing Image.factory 0 };
      Free .A s ∧ (s.desk .A).receiver.state = .hunt ∧ s.permits .A 34 = true ∧
      parse 34 [1] = .request (.clearList 1) ∧ (Request.clearList 1).changesStored = true ∧
      s.memory.isStoring = true) ∧
    State.reset.deskB.monitor.settings.rights = .playback ∧
    (∀ x, (State.reset.setMonitor .B (.afterReset ⟨1000, .hold, 30, .htp, x⟩)).deskB.monitor.settings.rights =
      x) :=
  ⟨⟨rfl, rfl, rfl⟩, ⟨rfl, rfl, rfl⟩, rfl, by decide +kernel, by decide +kernel, by decide +kernel,
    by decide +kernel, ⟨⟨rfl, rfl, rfl⟩, rfl, rfl, by decide +kernel, rfl, rfl⟩, rfl, fun _ => rfl⟩

/-- A reply in a list. -/
def reply (k : ReplyKind) : Reply := ⟨k, 1, 16, .done, 0, []⟩

/-- Desk A's buffer and list as given, with the processor's state. -/
def portState (b : Buffer) (rs : List Reply) (p : ProcessorState) : State :=
  { State.reset.setPort .A ⟨b, rs⟩ with processor := ⟨p, .A⟩ }

theorem test_witness_ArrivalsAtABusyBufferOrProcessor :
    Instr.request (.go .A 1 1) = some (.A, 1, .go 1) ∧
    (let s := portState (.answering ⟨1, 16, [1]⟩) [reply .final, reply .busy, reply .busy] .idle;
      (s.desk .A).port.buffer ≠ .empty ∧ busyReplies (s.desk .A).port.replies < 3) ∧
    (let s := portState (.answering ⟨1, 16, [1]⟩) [reply .final, reply .busy, reply .busy, reply .busy] .idle;
      (s.desk .A).port.buffer ≠ .empty ∧ 3 ≤ busyReplies (s.desk .A).port.replies) ∧
    (let s := portState .empty [] (.holding .B);
      (s.desk .A).port.buffer = .empty ∧ s.processor.state ≠ .idle ∧
        (s.desk .A).receiver.state = .hunt) ∧
    nextCommand (portState (.waiting ⟨1, 16, [1]⟩) [] .idle) = some (.A, ⟨1, 16, [1]⟩) := by decide +kernel

theorem test_witness_HeldClassWaitsForComputeEnd :
    let s := { State.reset with level := { State.reset.level with phase := .computing } };
    Instr.request (.go .A 1 6) = some (.A, 1, .go 6) ∧ Free .A s ∧ (Request.go 6).fits = true ∧
    s.permits .A (Request.go 6).code = true ∧ ((Request.go 6).changesStored && s.memory.isStoring) = false ∧
    s.level.phase = .computing ∧ (Request.go 6).isHeld s = true ∧
    (Request.clearBank 1).isHeld s = true ∧ (Request.clearBank 2).isHeld s = false :=
  ⟨rfl, ⟨rfl, rfl, rfl⟩, rfl, rfl, rfl, rfl, rfl, by decide +kernel, by decide +kernel⟩

theorem test_witness_MissingItemsAreRefusedNoSuch :
    TakenAtOnce .A (.go 0) State.reset ∧ (Request.go 0).namesMissingItem = true ∧
    (Request.go 7).namesMissingItem = true ∧ (Request.clearList 9).namesMissingItem = true ∧
    (Request.copyBank 1 5).namesMissingItem = true ∧ (Request.readLaw 8).namesMissingItem = true ∧
    (Request.readDesk 3 0).namesMissingItem = true ∧ (Request.clockAction 4 0).namesMissingItem = true ∧
    (Request.setRoute 17 0 0 0 0 0).namesMissingItem = true ∧
    (Request.setWatch 9 1 0 0 0).namesMissingItem = true := by
  exact ⟨resetTakes _ rfl, by decide +kernel⟩

theorem test_witness_ReplySentEmptiesItsBuffer : (State.reset.desk .A).port.replies = [] ∧
    ∀ k, ((portState (.answering ⟨1, 16, [1]⟩) [reply k] .idle).desk .A).port.replies = reply k :: [] ∧
      (reply k).kind = k :=
  ⟨rfl, fun _ => ⟨rfl, rfl⟩⟩

theorem test_witness_RestartIsAnsweredThenCarriedOut : TakenAtOnce .A .restart State.reset ∧
    (let s := portState (.answering ⟨1, 121, []⟩) [reply .busy, reply .restart] (.executing .A);
      (∃ r ∈ (s.desk .A).port.replies, r.kind = .restart) ∧
      (∀ r ∈ (s.desk (Desk.other .A)).port.replies, r.kind ≠ .restart)) ∧
    ((portState (.answering ⟨1, 121, []⟩) [reply .restart] (.executing .A)).desk .A).port.replies =
      reply .restart :: [] ∧
    (let s := (portState (.answering ⟨1, 121, []⟩) [reply .restart] (.executing .A)).setPort .B
        ⟨.answering ⟨1, 16, [1]⟩, [reply .final, reply .busy]⟩;
      (∃ r ∈ (s.desk .A).port.replies, r.kind = .restart) ∧
      (∀ r ∈ (s.desk (Desk.other .A)).port.replies, r.kind ≠ .restart)) :=
  ⟨resetTakes _ rfl, by decide +kernel, rfl, by decide +kernel⟩

theorem test_witness_PowerOnGivesTheImageOrFactoryValues : State.reset.memory.isValid = false ∧
    ({ State.reset with memory := .storing Image.factory 0 } : State).memory.isValid = false ∧
    ({ State.reset with memory := .valid Image.factory } : State).memory = .valid Image.factory :=
  ⟨rfl, rfl, rfl⟩

/-- A monitor LOST under a running fade. -/
def fadingMonitor : Monitor :=
  { Monitor.afterReset ⟨1000, .fade, 30, .htp, .full⟩ with
    state := .lost, lastLevels := some 50000, loss := some ⟨51000, .fade, 3000⟩, fadeRunning := true }

theorem test_witness_LevelsFrameIsAppliedWhole :
    Instr.wellFormed (.levelsFrame .A 768 [1, 2]) = true ∧ Instr.wellFormed (.levelsFrame .A 1 [1]) = true ∧
    readyFor .A .levels State.reset ∧
    readyFor .A .levels (State.reset.setReceiver .A ⟨.inFrame .levels [], 0⟩) ∧
    ((State.reset.desk .A).monitor.fadeRunning = true → (State.reset.desk .A).monitor.loss.isSome = true) ∧
    (fadingMonitor.fadeRunning = true ∧ fadingMonitor.loss.isSome = true) :=
  ⟨by decide +kernel, by decide +kernel, .inl rfl, .inr rfl, by decide, by decide⟩

theorem test_witness_FramesBeginAndAreRefused :
    readyFor .A .levels State.reset ∧ ((0 : Half).toNat = 0 ∧ 768 < (769 : Half).toNat ∧ (0 : Byte) = 0) ∧
    readyFor .A .command State.reset ∧ 2400 < (2401 : Half).toNat ∧
    (List.replicate 2400 (0 : Byte)).length ≤ 2400 ∧ (31 : Half) ≠ frameCheck 11 16 [2] :=
  ⟨.inl rfl, by decide, .inl rfl, by decide, by decide +kernel, by decide +kernel⟩

theorem test_witness_DeskLossIsCapturedAndFaded :
    (let s := desk 50000 51000 ⟨1000, .fade, 30, .htp, .full⟩;
      (s.desk .A).monitor.state = .active ∧ (s.desk .A).monitor.lastLevels = some 50000 ∧
      (s.desk .A).monitor.settings.timeout ≤ elapsed s.showClock 50000) ∧
    (State.reset.desk .A).monitor.state ≠ .active ∧
    (fadingMonitor.fadeRunning = true ∧ fadingMonitor.loss = some ⟨51000, .fade, 3000⟩ ∧
      3000 ≤ elapsed 54000 51000) ∧
    (State.reset.desk .A).monitor.fadeRunning ≠ true ∧ 0 < 3000 := by decide +kernel

/-- A scan start that is due, with a staged swap. -/
def scanDue (x : Option Staged) : State :=
  { State.reset with level := { State.reset.level with timer := 0, staged := x } }

theorem test_witness_ScanStartLatchesAndRunsThePlaybacks :
    ∀ x, (scanDue x).level.phase = .waiting ∧ (scanDue x).level.timer = 0 ∧ (scanDue x).level.staged = x :=
  fun _ => ⟨rfl, rfl, rfl⟩

theorem test_witness_ScanValuesAreTheMergeThroughThePatch :
    (scanDue none).level.phase = .waiting ∧ (scanDue none).level.timer = 0 ∧
    ∃ t, exec .scanStart (scanDue none) = .next t := ⟨rfl, rfl, _, rfl⟩

theorem test_witness_OutputStepFollowsItsThreeCases :
    let laws : Table Law 8 := ((Table.fill 8 .linear).set 5 (.switch 2048 1024)).set 2 .factoryCurve;
    ([(⟨0, 1⟩ : Park), ⟨1535, 2⟩].Pairwise fun a b => a.circuit < b.circuit) ∧
    (∃ y ∈ [(⟨0, 1⟩ : Park), ⟨1535, 2⟩], y.circuit = 1535) ∧
    (∀ y ∈ [(⟨0, 1⟩ : Park), ⟨1535, 2⟩], y.circuit ≠ 1) ∧ laws.get 0 = .linear ∧
    (∃ p, laws.get 2 = .curve p) ∧ laws.get 5 = .switch 2048 1024 ∧ 1024 < 2048 :=
  ⟨by decide, by decide, by decide, by decide +kernel, ⟨_, rfl⟩, by decide +kernel, by decide⟩

theorem test_witness_CurveLawsRoundHalfUp : (0 ≤ 4095 ∧ 4095 ≤ 4095) ∧ 3840 % 256 = 0 ∧
    (let p : Table Byte 17 := match Law.factoryCurve with | .curve p => p | _ => Table.fill 17 0;
      (p.get 15).toNat ≤ (p.get 16).toNat) ∧
    ((((Table.fill 17 (0 : Byte)).set 0 9).get 1).toNat < (((Table.fill 17 (0 : Byte)).set 0 9).get 0).toNat) :=
  by decide +kernel

theorem test_witness_FadeRecordsMoveBetweenStartAndTarget :
    let r : FadeRecord := ⟨0, 0, 4095, 100000, 1000000, 5, true⟩;
    r.moving = true ∧ r.origin ≤ 5 ∧ 5 - r.origin < r.delay ∧
    (r.delay ≤ 1100005 - r.origin ∧ r.time ≤ 1100005 - r.origin - r.delay) ∧
    (r.delay ≤ 100005 - r.origin ∧ 100005 - r.origin - r.delay < r.time) ∧
    r.level < 4095 ∧ (0 < 1 ∧ 1 ≤ 4095) ∧ ({ r with level := 9 } : FadeRecord).level = 9 ∧
    (3 : Nat) < ({ r with level := 9 } : FadeRecord).level := by decide

theorem test_witness_ScanWorkAdvancesTheFade :
    (atRest none).Legal ∧ (atRest none).state ≠ .fading ∧ (atRest none).state ≠ .waiting ∧
    (let pb := onTheMove .fading (some 1) (some 500000) 0;
      pb.Legal ∧ pb.state = .fading ∧ pb.clock + 40 * 10 * pb.rate < 2 ^ 64 ∧
      ∀ due ∈ pb.follow, pb.clock + 40 * 10 * pb.rate < due) ∧
    (let pb := waitingFor 500000 400000;
      pb.Legal ∧ pb.state = .waiting ∧ pb.clock + 10 * 10 * pb.rate < 2 ^ 64 ∧
      ∀ due ∈ pb.follow, pb.clock + 10 * 10 * pb.rate < due) :=
  ⟨test_legal_playbacks.2.1, by decide, by decide,
    ⟨test_legal_playbacks.2.2.2.1, rfl, by decide, by decide⟩,
    ⟨test_legal_playbacks.2.2.2.2.2, rfl, by decide, by decide⟩⟩

theorem test_witness_FollowTakesAnAutomaticGo :
    let lists : Table CueList 8 := (Table.fill 8 []).set 0 list1;
    (let pb := waitingFor 500000 490000;
      pb.Legal ∧ pb.state = .waiting ∧ pb.loaded = some 0 ∧ pb.clock + 10 * 10 * pb.rate < 2 ^ 64 ∧
      pb.follow = some 500000 ∧ 500000 ≤ pb.clock + 10 * 10 * pb.rate ∧
      nextCue (lists.get 0) pb.current = some (cue 2 128 none (some 9)) ∧
      ((cue 2 128 none (some 9)).entries.Pairwise fun a b => a.channel < b.channel) ∧
      ∀ f ∈ (cue 2 128 none (some 9)).follow, pb.clock + 10 * 10 * pb.rate + f * 100000 < 2 ^ 64) ∧
    (let pb := onTheMove .fading (some 3) (some 500000) 490000;
      pb.Legal ∧ pb.state = .fading ∧ pb.loaded = some 0 ∧ pb.clock + 10 * 10 * pb.rate < 2 ^ 64 ∧
      pb.follow = some 500000 ∧ 500000 ≤ pb.clock + 10 * 10 * pb.rate ∧
      nextCue (lists.get 0) pb.current = none) :=
  ⟨⟨legal_sound (by decide +kernel), rfl, rfl, by decide, rfl, by decide, by decide +kernel, by decide,
    by decide⟩, legal_sound (by decide +kernel), rfl, rfl, by decide, rfl, by decide, by decide +kernel⟩

/-- A scan in its computation phase, with a held request list. -/
def computing (held : List Held) : State :=
  { State.reset with level := { State.reset.level with phase := .computing, held := held } }

theorem test_witness_ComputeEndCompletesTheScan :
    let s := computing [.command .A ⟨1, 16, [1]⟩ (.go 1), .task 0 (.go 0)];
    s.level.phase = .computing ∧ (∀ d c r, Held.command d c r ∈ s.level.held → r.isHeld s = true) ∧
    ∀ d, (s.desk d).port.buffer.waitingCommand = none := by
  refine ⟨rfl, ?_, fun d => by cases d <;> rfl⟩
  intro d c r h
  simp only [computing, List.mem_cons, Held.command.injEq, List.not_mem_nil, or_false, reduceCtorEq] at h
  obtain ⟨-, -, rfl⟩ := h
  rfl

/-- The hypotheses of the second part of the dark test, with a swap staged AT DARK. -/
theorem test_witness_ComputeEndCompletesTheScan_dark :
    let s := (computing []).setStaged (some ⟨2, .atDark, false⟩);
    s.level.phase = .computing ∧ s.level.held = [] ∧ s.level.staged = some ⟨2, .atDark, false⟩ ∧
    (∀ d, (s.desk d).port.buffer.waitingCommand = none) ∧
    ∀ r, (s.triggers.routes.get r).enabled = false :=
  ⟨rfl, rfl, rfl, fun d => by cases d <;> rfl, by decide +kernel⟩

theorem test_witness_HeldRequestsAreTakenInTurn :
    (computing []).level.phase = .computing ∧
    (Instr.request (.go .A 1 1) = some (.A, 1, .go 1) ∧ Request.go 1 ≠ .restart ∧
      TakenAtOnce .A (.go 1) (show1 (atRest none))) ∧ nextCommand State.reset = none ∧
    (let c : Command := ⟨1, 16, [1]⟩;
      let u := portState (.waiting c) [] .idle;
      nextCommand u = some (.A, c) ∧ checkCommand .A c (begunAs .A c u) = .ok (.go 1) ∧
        Request.go 1 ≠ .restart ∧ u.level.phase = .waiting ∧
        (Request.go 1).isHeld (begunAs .A c u) = true ∧
        ({ u with level := (computing []).level } : State).level.phase = .computing) ∧
    (let c : Command := ⟨1, 121, []⟩;
      checkCommand .A c (begunAs .A c (portState (.waiting c) [] .idle)) = .ok .restart) ∧
    (let c : Command := ⟨1, 27, []⟩;
      checkCommand .A c (begunAs .A c (portState (.waiting c) [] .idle)) = .error .badRequest) :=
  ⟨rfl, ⟨rfl, by decide, showTakes _ _ rfl⟩, by decide +kernel,
    ⟨by decide +kernel, rfl, by decide, rfl, rfl, rfl⟩, rfl, rfl⟩

/-- A compute end with a pending set on every link. -/
theorem test_witness_ScanEventsComeInOrder :
    let s := { computing [] with
      links := Table.fill 4 ⟨true, 1, .sending 0, some (Table.fill 384 0), [0], some (Table.fill 384 1),
        some (Table.fill 384 0), none⟩ };
    s.level.phase = .computing ∧ s.level.held = [] ∧
    (∀ d, (s.desk d).port.buffer.waitingCommand = none) ∧ (∀ l, (s.links.get l).skips = true) ∧
    ∀ r, (s.triggers.routes.get r).enabled = false :=
  ⟨rfl, rfl, fun d => by cases d <;> rfl, by decide +kernel, by decide +kernel⟩

/-- A transmitter SENDING to rack 0 of a cycle. -/
def sending (mask : BitVec 4) (cycle : List (Fin 4)) (queued : Option LinkSet) : Transmitter :=
  ⟨true, mask, .sending 0, some (Table.fill 384 0), cycle, queued, some (Table.fill 384 0), none⟩

/-- A transmitter IDLE with its refresh timer running. -/
def resting (mask : BitVec 4) (ms : Nat) : Transmitter :=
  ⟨true, mask, .idle, none, [], none, some (Table.fill 384 0), some ms⟩

theorem test_witness_OutputSetIsPostedToTheLinks :
    ({ resting 15 0 with enabled := false } : Transmitter).enabled = false ∧ (resting 0 0).mask = 0 ∧
    ((resting 1 0).enabled = true ∧ (resting 1 0).mask ≠ 0 ∧ (resting 1 0).state = .idle) ∧
    ((sending 1 [0] none).enabled = true ∧ (sending 1 [0] none).mask ≠ 0 ∧
      (sending 1 [0] none).state = .sending 0) := by decide +kernel

theorem test_witness_RackLinksSendTheirCycles :
    (resting 15 0).state = .idle ∧
    ((sending 5 [0, 2] none).cycle.Pairwise (fun x y => x < y) ∧
      (2 : Fin 4) ∈ (sending 5 [0, 2] none).cycle ∧ (0 : Fin 4) < 2 ∧
      ∀ x ∈ (sending 5 [0, 2] none).cycle, 0 < x → 2 ≤ x) ∧
    (∀ x ∈ (sending 1 [0] none).cycle, x ≤ 0) ∧ (sending 1 [0] none).queued = none ∧
    ((sending 0 [0] (some (Table.fill 384 1))).queued = some (Table.fill 384 1) ∧
      (sending 0 [0] (some (Table.fill 384 1))).mask = 0) ∧
    (sending 8 [0] (some (Table.fill 384 1))).mask ≠ 0 ∧
    ({ sending 1 [0] none with enabled := false } : Transmitter).enabled = false ∧
    ((resting 0 100).refresh = some 100 ∧ (resting 0 100).last = some (Table.fill 384 0) ∧
      (resting 0 100).mask = 0 ∧ (resting 1 100).mask ≠ 0) ∧ (resting 1 99).refresh = some 99 := by
  decide +kernel

theorem test_witness_SentFramesCarryTheirFields :
    (resting 15 0).state = .idle ∧
    (sending 1 [0] none).state = .sending 0 ∧ (sending 1 [0] none).current = some (Table.fill 384 0) ∧
    (Reply.mk .final 1 16 .done 0 (List.replicate 65535 0)).data.length < 65536 :=
  ⟨rfl, rfl, rfl, by rw [List.length_replicate]; decide⟩

theorem test_witness_SetLinkTakesBothSettings :
    TakenAtOnce .A (.setLink 4 2 15) State.reset ∧ TakenAtOnce .A (.setLink 1 1 16) State.reset ∧
    TakenAtOnce .A (.setLink 1 0 15) State.reset ∧ TakenAtOnce .A (.setLink 1 1 0) State.reset ∧
    number 4 (4 : Byte).toNat = some 3 ∧ number 4 (1 : Byte).toNat = some 0 ∧
    (2 ≤ (2 : Byte).toNat ∧ 16 ≤ (16 : Byte).toNat) ∧ ((1 : Byte).toNat ≤ 1 ∧ (15 : Byte).toNat < 16) :=
  ⟨resetTakes _ rfl, resetTakes _ rfl, resetTakes _ rfl, resetTakes _ rfl, by decide, by decide, by decide,
    by decide⟩

theorem test_witness_NextCueFollowsTheLink :
    missingLink list1 (some 2) = some 9 ∧ missingLink list1 none = none ∧ missingLink list1 (some 1) = none ∧
    missingLink list1 (some 5) = none ∧ (list1.Pairwise fun a b => a.number < b.number) ∧
    (cue 2 128 none (some 9) ∈ list1 ∧ (cue 2 128 none (some 9)).number = 2 ∧
      (cue 2 128 none (some 9)).link = some 9 ∧ ∀ x ∈ list1, x.number ≠ 9) ∧
    (let l := [cue 1 0 none none, cue 30 0 none (some 1)];
      (l.Pairwise fun a b => a.number < b.number) ∧ cue 30 0 none (some 1) ∈ l ∧
      cue 1 0 none none ∈ l ∧ (cue 1 0 none none).number = 1) := by decide

theorem test_witness_GoTakesACueOrEndsTheList :
    (TakenAtOnce .A (.go 1) (show1 (atRest (some 2))) ∧ number 6 (1 : Byte).toNat = some 0 ∧
      ((show1 (atRest (some 2))).playbacks.get 0).loaded = some 0 ∧
      nextCue ((show1 (atRest (some 2))).lists.get 0) (some 2) = some (cue 3 0 none none) ∧
      (missingLink ((show1 (atRest (some 2))).lists.get 0) (some 2) = some 9) ∧
      ((cue 3 0 none none).entries.Pairwise fun a b => a.channel < b.channel) ∧
      ∀ f ∈ (cue 3 0 none none).follow, (atRest (some 2)).clock + f * 100000 < 2 ^ 64) ∧
    (atRest (some 2)).Legal ∧
    (TakenAtOnce .A (.go 1) State.reset ∧ (State.reset.playbacks.get 0).state = .empty) ∧
    (TakenAtOnce .A (.go 1) (show1 (atRest (some 3))) ∧
      nextCue ((show1 (atRest (some 3))).lists.get 0) (some 3) = none) :=
  ⟨⟨showTakes _ _ rfl, by decide, by decide +kernel, by decide +kernel, by decide +kernel, by decide,
    by decide⟩, legal_sound (by decide +kernel), ⟨resetTakes _ rfl, by decide +kernel⟩,
    showTakes _ _ rfl, by decide +kernel⟩

theorem test_witness_GotoAndBackMoveEveryChannel :
    let s := show1 (atRest (some 2));
    (∀ cue ovr, TakenAtOnce .A (.goto 1 cue ovr) s) ∧ (atRest (some 2)).Legal ∧
    (s.playbacks.get 0).loaded = some 0 ∧
    (1 ≤ (1 : Half).toNat ∧ (1 : Half).toNat ≤ 9999 ∧ (65535 : Half).toNat = 65535 ∧
      (6000 : Half).toNat ≤ 6000) ∧
    ((s.lists.get 0).at 1 = some (cue 1 255 (some 5) none) ∧
      ∀ f ∈ (cue 1 255 (some 5) none).follow, (atRest (some 2)).clock + f * 100000 < 2 ^ 64) ∧
    (∀ c ∈ s.lists.get 0, c.number ≠ (9999 : Half).toNat) ∧ ¬(1 ≤ (0 : Half).toNat) ∧
    ¬((6001 : Half).toNat = 65535 ∨ (6001 : Half).toNat ≤ 6000) ∧
    TakenAtOnce .A (.back 1) s ∧ (s.playbacks.get 0).current = some 2 ∧
    (s.lists.get 0).below 2 = some (cue 1 255 (some 5) none) ∧ (s.lists.get 0).below 1 = none ∧
    ((show1 (atRest none)).playbacks.get 0).current = none ∧
    (State.reset.playbacks.get 0).state = .empty :=
  ⟨fun _ _ => showTakes _ _ rfl, legal_sound (by decide +kernel), by decide +kernel, by decide,
    by decide +kernel, by decide +kernel, by decide, by decide, showTakes _ _ rfl, by decide +kernel,
    by decide +kernel, by decide +kernel, by decide +kernel, by decide +kernel⟩

theorem test_witness_ReleasePauseAndResumeActOnTheFade :
    (∀ pb, TakenAtOnce .A (.release 1) (show1 pb) ∧ TakenAtOnce .A (.pause 1) (show1 pb) ∧
      TakenAtOnce .A (.resume 1) (show1 pb)) ∧ number 6 (6 : Byte).toNat = some 5 ∧
    (Playback.afterReset none 20 10).state = .empty ∧ (atRest none).state ≠ .empty ∧
    (onTheMove .fading (some 1) (some 500000) 0).state = .fading ∧ (waitingFor 500000 400000).state = .waiting ∧
    (onTheMove .paused (some 1) none 5).state = .paused ∧
    (atRest none).state ≠ .fading ∧ (atRest none).state ≠ .waiting ∧ (atRest none).state ≠ .paused :=
  ⟨fun _ => ⟨showTakes _ _ rfl, showTakes _ _ rfl, showTakes _ _ rfl⟩, by decide, by decide, by decide,
    by decide, by decide, by decide, by decide, by decide, by decide⟩

theorem test_witness_PlaybackListsAndSettingsAreTaken :
    (∀ pb, TakenAtOnce .A (.loadList 1 8) (show1 pb) ∧ TakenAtOnce .A (.unload 1) (show1 pb)) ∧
    (∀ pb, TakenAtOnce .A (.loadList 1 0) (show1 pb) ∧ TakenAtOnce .A (.loadList 1 9) (show1 pb)) ∧
    ((0 : Byte).toNat = 0 ∧ 8 < (9 : Byte).toNat) ∧
    number 6 (1 : Byte).toNat = some 0 ∧ number 8 (8 : Byte).toNat = some 7 ∧
    (Playback.afterReset none 20 10).state = .empty ∧ (atRest none).state = .idle ∧
    ¬((onTheMove .fading (some 1) none 0).state = .empty ∨ (onTheMove .fading (some 1) none 0).state = .idle) ∧
    TakenAtOnce .A (.setMaster 6 255) State.reset ∧ TakenAtOnce .A (.setRate 6 24) State.reset ∧
    TakenAtOnce .A (.setRate 6 401) State.reset ∧ TakenAtOnce .A (.setPlaybackTimes 6 6000 6000) State.reset ∧
    TakenAtOnce .A (.setPlaybackTimes 6 6001 0) State.reset ∧ 6000 < (6001 : Half).toNat :=
  ⟨fun _ => ⟨showTakes _ _ rfl, showTakes _ _ rfl⟩, fun _ => ⟨showTakes _ _ rfl, showTakes _ _ rfl⟩, by decide, by decide, by decide, by decide, by decide, by decide,
    resetTakes _ rfl, resetTakes _ rfl, resetTakes _ rfl, resetTakes _ rfl, resetTakes _ rfl, by decide⟩

theorem test_witness_CueListsAreSearchedAndEditedInOrder :
    (list1.Pairwise fun a b => a.number < b.number) ∧ cue 1 255 (some 5) none ∈ list1 ∧
    (cue 1 255 (some 5) none).number ≤ 1 ∧ (cue 1 255 (some 5) none).levelOf 0 = some 255 ∧
    (∀ x ∈ list1, (cue 1 255 (some 5) none).number < x.number → x.number ≤ 1 → x.levelOf 0 = none) ∧
    (∀ x ∈ list1, x.number ≤ 3 → x.levelOf 767 = none) ∧
    ((cue 1 255 (some 5) none).entries.Pairwise fun a b => a.channel < b.channel) ∧
    ∃ e ∈ (cue 1 255 (some 5) none).entries, e.channel = 0 ∧ e.level = 255 := by decide

/-- 999 cues of no entries. -/
def manyCues : CueList :=
  (List.range 999).map fun i => ⟨i + 1, 0, 0, 0, 0, none, none, []⟩

theorem cueCount_list1 (l : CueList) : cueCount (State.reset.setList 0 l).lists = l.length := by
  show ((l :: List.replicate 7 []).map List.length).sum = l.length
  simp

theorem test_witness_CueStoreRequestsCheckAndEdit :
    (let es : List (Half × Byte) := [(1, 255), (768, 0)];
      TakenAtOnce .A (.writeCue 8 9999 6000 6000 6000 6000 6000 9999 2 (entryBytes es)) State.reset ∧
      number 8 (8 : Byte).toNat = some 7 ∧ (2 : Half).toNat = es.length ∧
      (es.Pairwise fun a b => a.1.toNat < b.1.toNat) ∧
      (1 ≤ (9999 : Half).toNat ∧ (9999 : Half).toNat ≤ 9999) ∧ (6000 : Half).toNat ≤ 6000 ∧
      (∀ e ∈ es, 1 ≤ e.1.toNat ∧ e.1.toNat ≤ 768) ∧
      ((State.reset.lists.get 7).at (9999 : Half).toNat).isSome = false ∧
      cueCount State.reset.lists + 1 ≤ 1000 ∧ entryCount State.reset.lists + es.length ≤ 32768 + 0) ∧
    (1 : Half).toNat ≠ [((1 : Half), (0 : Byte)), (2, 0)].length ∧
    ¬([((2 : Half), (0 : Byte)), (2, 0)].Pairwise fun a b => a.1.toNat < b.1.toNat) ∧
    ¬((10000 : Half).toNat ≤ 9999) ∧
    (let s := State.reset.setList 0 (⟨9999, 0, 0, 0, 0, none, none, []⟩ :: manyCues);
      TakenAtOnce .A (.writeCue 8 1 0 0 0 0 65535 0 0 (entryBytes [])) s ∧
      1000 < cueCount s.lists + 1) :=
  ⟨⟨resetTakes _ rfl, by decide, by decide, by decide, by decide, by decide +kernel,
    List.forall_mem_cons.mpr ⟨by decide, List.forall_mem_singleton.mpr (by decide +kernel)⟩,
    by decide +kernel, by decide +kernel, by decide +kernel⟩, by decide, by decide,
    by decide, ⟨⟨rfl, rfl, rfl⟩, rfl, rfl, rfl, .inl rfl⟩,
    by rw [cueCount_list1, List.length_cons, manyCues, List.length_map, List.length_range]; decide⟩

theorem test_witness_CueStoreRequestsCheckAndEdit_removals :
    (∀ c, TakenAtOnce .A (.deleteCue 1 c) (show1 (atRest none))) ∧
    TakenAtOnce .A (.clearList 1) (show1 (atRest none)) ∧ number 8 (1 : Byte).toNat = some 0 ∧
    ((0 : Half).toNat = 0 ∧ 9999 < (10000 : Half).toNat) ∧
    (∀ c ∈ (show1 (atRest none)).lists.get 0, c.number ≠ (9999 : Half).toNat) ∧
    ∃ c ∈ (show1 (atRest none)).lists.get 0, c.number = (1 : Half).toNat :=
  ⟨fun _ => showTakes _ _ rfl, showTakes _ _ rfl, by decide, by decide, by decide +kernel,
    by decide +kernel⟩

theorem test_witness_BankEditsWriteRecordsAndBanks :
    (∀ b c src p l pre top, TakenAtOnce .A (.setCircuit b c src p l pre top) State.reset) ∧
    (∀ x y, TakenAtOnce .A (.copyBank x y) State.reset) ∧ (∀ x, TakenAtOnce .A (.clearBank x) State.reset) ∧
    number 4 (4 : Byte).toNat = some 3 ∧ (1536 < (1537 : Half).toNat ∧ 768 < (769 : Half).toNat ∧
      8 ≤ (8 : Byte).toNat) ∧
    ((1536 : Half).toNat = numbered (1535 : Fin 1536) ∧ (7 : Byte).toNat = (7 : Fin 8).val ∧
      (768 : Half).toNat ≤ 768) :=
  ⟨fun _ _ _ _ _ _ _ => resetTakes _ rfl, fun _ _ => resetTakes _ rfl, fun _ => resetTakes _ rfl, by decide,
    by decide, by decide +kernel⟩

theorem test_witness_SwapsAreStagedAndCancelled :
    (∀ b m p, TakenAtOnce .A (.selectBank b m p) State.reset) ∧ TakenAtOnce .A .cancelSwap State.reset ∧
    number 4 (4 : Byte).toNat = some 3 ∧ number 6 (6 : Byte).toNat = some 5 ∧
    number 6 (0 : Byte).toNat = none ∧ 3 < (4 : Byte).toNat ∧ State.reset.level.staged = none ∧
    TakenAtOnce .A .cancelSwap (State.reset.setStaged (some ⟨3, .atGo 1, false⟩)) ∧
    (State.reset.setStaged (some ⟨3, .atGo 1, false⟩)).level.staged = some ⟨3, .atGo 1, false⟩ :=
  ⟨fun _ _ _ => resetTakes _ rfl, resetTakes _ rfl, by decide, by decide, by decide, by decide, rfl,
    ⟨⟨rfl, rfl, rfl⟩, rfl, rfl, rfl, .inl rfl⟩, rfl⟩

theorem test_witness_LoadLawReplacesTheLaw :
    (∀ l k, TakenAtOnce .A (.loadLaw l k (List.replicate 17 0)) State.reset ∧
      TakenAtOnce .A (.loadLaw l k [15, 255, 15, 254]) State.reset ∧
      TakenAtOnce .A (.loadLaw l k [16, 0, 0, 0]) State.reset ∧
      TakenAtOnce .A (.loadLaw l k [4, 0, 4, 0]) State.reset) ∧
    (0 : Byte).toNat = (0 : Fin 8).val ∧ (7 : Byte).toNat = (7 : Fin 8).val ∧
    ((half 15 254).toNat < (half 15 255).toNat ∧ (half 15 255).toNat ≤ 4095) ∧
    (4095 < (half 16 0).toNat ∧ (half 4 0).toNat ≤ (half 4 0).toNat) :=
  ⟨fun _ _ => ⟨resetTakes _ rfl, resetTakes _ rfl, resetTakes _ rfl, resetTakes _ rfl⟩, by decide, by decide,
    by decide, by decide⟩

/-- The part with a park list. -/
def parked (parks : List Park) : State :=
  { State.reset with patch := { State.reset.patch with parks := parks } }

theorem test_witness_ParksAreKeptInTheList :
    (∀ parks c level, TakenAtOnce .A (.park c level) (parked parks) ∧ TakenAtOnce .A (.unpark c) (parked parks) ∧
      TakenAtOnce .A .unparkAll (parked parks)) ∧
    ((1536 : Half).toNat = numbered (1535 : Fin 1536) ∧ (0 : Half).toNat = 0 ∧ 1536 < (1537 : Half).toNat) ∧
    ([(⟨0, 1⟩ : Park), ⟨1535, 2⟩].Pairwise fun a b => a.circuit < b.circuit) ∧
    (∃ x ∈ [(⟨0, 1⟩ : Park), ⟨1535, 2⟩], x.circuit = 1535) ∧
    (let full : List Park := (List.finRange 48).map fun i => ⟨i.castLE (by decide), 0⟩;
      (full.Pairwise fun a b => a.circuit < b.circuit) ∧ 48 ≤ full.length ∧ (full.drop 1).length < 48 ∧
      ∀ x ∈ full, x.circuit ≠ 1535) :=
  ⟨fun _ _ _ => ⟨⟨⟨rfl, rfl, rfl⟩, rfl, rfl, rfl, .inl rfl⟩, ⟨⟨rfl, rfl, rfl⟩, rfl, rfl, rfl, .inl rfl⟩,
    ⟨⟨rfl, rfl, rfl⟩, rfl, rfl, rfl, .inl rfl⟩⟩, by decide +kernel, by decide +kernel, by decide +kernel,
    by decide +kernel⟩

theorem test_witness_LevelAndDeskSettingsAreTaken_level :
    ∀ x, TakenAtOnce .A (.setGrandMaster x) State.reset ∧ TakenAtOnce .A (.blackout x) State.reset ∧
      TakenAtOnce .A (.setScan x) State.reset :=
  fun _ => ⟨resetTakes _ rfl, resetTakes _ rfl, resetTakes _ rfl⟩

theorem test_witness_LevelAndDeskSettingsAreTaken :
    (∀ x t a f m r, TakenAtOnce .A (.setDesk x t a f m r) State.reset) ∧
    deskOfCode (1 : Byte).toNat = some .A ∧ deskOfCode (2 : Byte).toNat = some .B ∧
    (3 ≤ (3 : Byte).toNat ∧ 2 ≤ (2 : Byte).toNat) ∧ LossAction.ofCode (2 : Byte).toNat = some .fade ∧
    Merge.ofCode (1 : Byte).toNat = some .off ∧ Rights.ofCode (2 : Byte).toNat = some .none ∧
    Rights.none ≠ .full :=
  ⟨fun _ _ _ _ _ _ => resetTakes _ rfl, by decide, by decide, by decide, by decide, by decide, by decide,
    by decide⟩

theorem test_witness_ContactsFollowTheirInputs :
    (true ≠ (State.reset.triggers.contacts.get 0).input ∧ true ≠ (State.reset.triggers.contacts.get 0).accepted ∧
      0 < (State.reset.triggers.contacts.get 0).debounce) ∧
    (let x : Contact := ⟨.both, 0, true, false, some 0⟩;
      false ≠ x.input ∧ false = x.accepted ∧ x.debounce = 0 ∧ x.timer = some 0 ∧ x.debounce ≤ 0) ∧
    (∃ t, (⟨.both, 20, true, false, some 19⟩ : Contact).timer = some t ∧ t < 20) ∧
    (∀ c e t, TakenAtOnce .A (.setContact c e t) State.reset) ∧ number 4 (4 : Byte).toNat = some 3 ∧
    4 ≤ (4 : Byte).toNat ∧ Edge.ofCode (3 : Byte).toNat = some .both ∧ 250 < (251 : Byte).toNat ∧
    (let s := State.reset.setContact 0 ⟨.both, 20, true, false, some 3⟩;
      TakenAtOnce .A (.setContact 1 3 0) s ∧ (s.triggers.contacts.get 0).timer.isSome = true) :=
  ⟨by decide +kernel, by decide, ⟨19, by decide⟩, fun _ _ _ => resetTakes _ rfl, by decide, by decide,
    by decide, by decide, ⟨⟨rfl, rfl, rfl⟩, rfl, rfl, rfl, .inl rfl⟩, by decide +kernel⟩

theorem test_witness_CueClocksRunAndMatch :
    (State.reset.triggers.clocks.get 0).owed = false ∧
    (∀ m st, let x : CueClock := ⟨m, 5, 0, 4, st, true⟩;
      x.owed = true ∧ x.count + 1 = x.compare ∧ x.state = st ∧ x.mode = m) ∧
    (let x : CueClock := ⟨.free, 9, 0, 4, .running, true⟩;
      x.owed = true ∧ x.state ≠ .stopped ∧ x.count + 1 ≠ x.compare) ∧
    number 3 (3 : Byte).toNat = some 2 ∧ (∀ c a, TakenAtOnce .A (.clockAction c a) State.reset) ∧
    (State.reset.triggers.clocks.get 0).state = .stopped ∧ 3 < (4 : Byte).toNat ∧
    (let s := State.reset.setClock 0 ⟨.free, 9, 0, 4, .running, false⟩;
      TakenAtOnce .A (.clockAction 1 3) s ∧ (s.triggers.clocks.get 0).state ≠ .stopped) ∧
    (∀ c m x y, TakenAtOnce .A (.setClock c m x y) State.reset) ∧
    ClockMode.ofCode (2 : Byte).toNat = some .free ∧ (16777215 : Quad).toNat ≤ 16777215 ∧
    16777215 < (16777216 : Quad).toNat ∧ 3 ≤ (3 : Byte).toNat :=
  ⟨by decide +kernel, fun _ _ => ⟨rfl, rfl, rfl, rfl⟩, by decide, by decide, fun _ _ => resetTakes _ rfl,
    by decide +kernel, by decide, ⟨⟨⟨rfl, rfl, rfl⟩, rfl, rfl, rfl, .inl rfl⟩, by decide +kernel⟩,
    fun _ _ _ _ => resetTakes _ rfl, by decide, by decide, by decide, by decide⟩

theorem test_witness_WatchesAndRoutesAreSetWhole :
    (∀ w c x t e, TakenAtOnce .A (.setWatch w c x t e) State.reset) ∧
    (∀ r e a b c t, TakenAtOnce .A (.setRoute r e a b c t) State.reset) ∧
    number 8 (8 : Byte).toNat = some 7 ∧ number 16 (16 : Byte).toNat = some 15 ∧
    (1536 < (1537 : Half).toNat ∧ 2 ≤ (2 : Byte).toNat) ∧
    (1536 : Half).toNat = numbered (1535 : Fin 1536) ∧ Condition.ofCode (1 : Byte).toNat = some .below ∧
    (1 : Byte).toNat < 2 ∧ Source.ofCode (10 : Byte).toNat (8 : Byte).toNat = some (.watch 7) ∧
    Source.ofCode (10 : Byte).toNat (9 : Byte).toNat = none ∧
    Task.ofCode (4 : Byte).toNat (6 : Byte).toNat = some (.release 5) ∧
    Task.ofCode (4 : Byte).toNat (7 : Byte).toNat = none :=
  ⟨fun _ _ _ _ _ => resetTakes _ rfl, fun _ _ _ _ _ _ => resetTakes _ rfl, by decide, by decide, by decide,
    by decide +kernel, by decide, by decide, by decide, by decide, by decide, by decide⟩

/-- The part with Route 16 set. -/
def routed (t : Task) (holdoff : Bool) : State := State.reset.setRoute 15 ⟨true, .contact 3, t, holdoff⟩

theorem test_witness_ARouteFiresOnceBetweenScans :
    EventKind.contact.routable = true ∧ EventKind.setSkipped.routable = false ∧
    (∀ r, ¬(State.reset.triggers.routes.get r).Meets ⟨.contact, 4, 1⟩) ∧
    (∀ r, ((routed .swapNow false).triggers.routes.get r).Meets ⟨.contact, 4, 1⟩ ↔ r = 15) ∧
    (∀ t h, ((routed t h).triggers.routes.get 15).holdoff = h ∧ ((routed t h).triggers.routes.get 15).task = t ∧
      (routed t h).level.phase = .waiting) ∧
    Task.isHeld .blackoutOn = true ∧ Task.isHeld (.start 2) = false ∧
    ({ routed .blackoutOn false with
      level := { State.reset.level with phase := .computing } } : State).level.phase = .computing :=
  ⟨rfl, rfl, by decide +kernel, by decide +kernel, fun _ _ => ⟨rfl, rfl, rfl⟩, rfl, rfl, rfl⟩

/-- The hypotheses of the last part: a set mark before a tick and before a SCAN_START that is not due, and
before a tick under way in a computation, with the scan timer at 0. -/
theorem test_witness_ARouteFiresOnceBetweenScans_marks :
    (∀ i ∈ [Instr.showClockTick, .scanStart], let s := { routed .swapNow true with pending := [i] };
      s.pending = i :: [] ∧ (∃ t, step s = .next t) ∧ i ≠ .powerOn ∧ s.level.timer ≠ 0 ∧
      (s.triggers.routes.get 15).holdoff = true) ∧
    (let s := { routed .swapNow true with
      pending := [Instr.showClockTick]
      showClock := 1
      level := { State.reset.level with phase := .computing, timer := 0 } };
      s.pending = .showClockTick :: [] ∧ (∃ t, step s = .next t) ∧ s.level.phase = .computing ∧
      elapsed s.showClock s.level.work.start < 2 ∧ (s.triggers.routes.get 15).holdoff = true) := by
  refine ⟨?_, rfl, ⟨_, rfl⟩, rfl, by decide, rfl⟩
  intro i hi
  simp only [List.mem_cons, List.not_mem_nil, or_false] at hi
  rcases hi with rfl | rfl <;> exact ⟨rfl, ⟨_, rfl⟩, by decide, by decide, rfl⟩

theorem test_witness_TasksActAsTheirRequests :
    (∀ pb, (show1 pb).playbacks.get 0 = pb) ∧
    (Playback.afterReset none 20 10).Legal ∧ (Playback.afterReset none 20 10).state = .empty ∧
    (let pb := atRest (some 2);
      pb.Legal ∧ pb.loaded = some 0 ∧ nextCue ((show1 pb).lists.get 0) pb.current = some (cue 3 0 none none) ∧
      ((cue 3 0 none none).entries.Pairwise fun a b => a.channel < b.channel) ∧
      (∀ f ∈ (cue 3 0 none none).follow, pb.clock + f * 100000 < 2 ^ 64) ∧
      pb.state ≠ .fading ∧ pb.state ≠ .waiting ∧ pb.state ≠ .paused ∧ pb.state ≠ .empty) ∧
    nextCue ((show1 (atRest (some 3))).lists.get 0) (some 3) = none ∧
    (onTheMove .fading (some 1) (some 500000) 0).state = .fading ∧
    (onTheMove .paused (some 1) none 5).state = .paused ∧
    (State.reset.triggers.clocks.get 2).state = .stopped ∧
    ((State.reset.setClock 2 ⟨.free, 9, 0, 4, .running, false⟩).triggers.clocks.get 2).state ≠ .stopped ∧
    State.reset.level.staged = none ∧ (scanDue (some ⟨1, .onTask, false⟩)).level.staged = some ⟨1, .onTask, false⟩ :=
  ⟨fun _ => rfl, test_legal_playbacks.1, by decide, ⟨legal_sound (by decide +kernel), by decide, by decide +kernel,
    by decide, by decide, by decide, by decide, by decide, by decide⟩, by decide +kernel, by decide, by decide,
    by decide +kernel, by decide +kernel, rfl, rfl⟩

theorem test_witness_EveryChainOfTasksEnds : 17 ≤ 18 := by decide

theorem test_witness_ReportsAreQueuedTakenAndCleared :
    (State.reset.reports.mask.getLsbD EventKind.storeFailed.bit = true ∧
      State.reset.reports.queue.length < 32) ∧
    32 ≤ (List.replicate 32 (⟨⟨.contact, 1, 1⟩, 0⟩ : Report)).length ∧
    (0 : BitVec 14).getLsbD EventKind.contact.bit = false ∧
    (∀ n, TakenAtOnce .A (.takeReports n) State.reset) ∧ (∀ m, TakenAtOnce .A (.setReportMask m) State.reset) ∧
    ∀ x, TakenAtOnce .A (.clearFlags x) State.reset :=
  ⟨by decide +kernel, by decide, by decide, fun _ => resetTakes _ rfl, fun _ => resetTakes _ rfl,
    fun _ => resetTakes _ rfl⟩

theorem test_witness_StoreWritesTheImageAndEnds : TakenAtOnce .A .store State.reset ∧
    ({ State.reset with memory := .storing Image.factory 5 } : State).memory = .storing Image.factory 5 ∧
    State.reset.memory.isStoring = false := ⟨resetTakes _ rfl, rfl, rfl⟩

theorem test_witness_TickAdvancesTimeExactly :
    ((∀ c, (State.reset.triggers.clocks.get c).owed = false) ∧
      (∀ c t, (State.reset.triggers.contacts.get c).timer = some t →
        t < (State.reset.triggers.contacts.get c).debounce) ∧
      (∀ d t, (State.reset.desk d).monitor.state = .active → (State.reset.desk d).monitor.lastLevels = some t →
        (State.reset.showClock - t).toNat < (State.reset.desk d).monitor.settings.timeout) ∧
      (∀ d x, (State.reset.desk d).monitor.fadeRunning = true → (State.reset.desk d).monitor.loss = some x →
        (State.reset.showClock - x.moment).toNat < x.fadeTime) ∧
      (∀ l t, (State.reset.links.get l).refresh = some t → t < 100) ∧
      (State.reset.level.phase = .computing →
        (State.reset.showClock - State.reset.level.work.start).toNat < 2) ∧
      (∀ i since, State.reset.memory = .storing i since → (State.reset.showClock - since).toNat < 3000) ∧
      (State.reset.level.phase = .waiting → 0 < State.reset.level.timer)) ∧
    ((∀ d, (State.reset.desk d).monitor.state = .absent ∧ (State.reset.desk d).monitor.fadeRunning = false) ∧
      (∀ c, (State.reset.triggers.contacts.get c).timer = none) ∧
      (∀ l, (State.reset.links.get l).refresh = none) ∧ State.reset.memory.isStoring = false) ∧
    ((scanDue none).level.phase = .waiting ∧ (scanDue none).level.timer = 0) ∧
    (let s := { computing [] with showClock := 2 };
      s.level.phase = .computing ∧ 2 ≤ (s.showClock - s.level.work.start).toNat ∧ 0 < s.level.timer) := by
  refine ⟨⟨by decide +kernel, ?_, ?_, ?_, ?_, by decide, ?_, by decide⟩, ⟨fun d => by cases d <;> exact ⟨rfl, rfl⟩, by decide +kernel, by decide +kernel, rfl⟩,
    ⟨rfl, rfl⟩, by decide +kernel⟩
  · have h : ∀ c, (State.reset.triggers.contacts.get c).timer = none := by decide +kernel
    intro c t ht
    rw [h] at ht
    cases ht
  · intro d t h
    cases d <;> cases h
  · intro d t h
    cases d <;> cases h
  · have h : ∀ l, (State.reset.links.get l).refresh = none := by decide +kernel
    intro l t ht
    rw [h] at ht
    cases ht
  · intro i since h
    cases h

theorem test_witness_ReadsOfOwnersAnswer :
    (∀ t c, TakenAtOnce .A (.readDesk t c) State.reset) ∧ deskOfCode (2 : Byte).toNat = some .B ∧
    (∀ l c, TakenAtOnce .A (.readCue l c) (show1 (atRest none))) ∧ number 8 (1 : Byte).toNat = some 0 ∧
    9999 < (10000 : Half).toNat ∧
    (((show1 (atRest none)).lists.get 0).at (9999 : Half).toNat = none ∧ (9999 : Half).toNat ≤ 9999) ∧
    ((show1 (atRest none)).lists.get 0).at (1 : Half).toNat = some (cue 1 255 (some 5) none) ∧
    (∀ b c, TakenAtOnce .A (.readBankEntry b c) State.reset) ∧ number 4 (4 : Byte).toNat = some 3 ∧
    1536 < (1537 : Half).toNat ∧ (1536 : Half).toNat = numbered (1535 : Fin 1536) ∧
    (∀ l, TakenAtOnce .A (.readLaw l) State.reset) ∧ (7 : Byte).toNat = (7 : Fin 8).val ∧
    TakenAtOnce .A .readStatus State.reset ∧ TakenAtOnce .A .readTriggers State.reset :=
  ⟨fun _ _ => resetTakes _ rfl, by decide, fun _ _ => showTakes _ _ rfl, by decide, by decide,
    by decide +kernel, by decide +kernel, fun _ _ => resetTakes _ rfl, by decide, by decide, by decide +kernel,
    fun _ => resetTakes _ rfl, by decide, resetTakes _ rfl, resetTakes _ rfl⟩

theorem test_witness_ReadsOfTheScanAnswer :
    (∀ c, TakenAtOnce .A (.readChannel c) State.reset) ∧ 768 < (769 : Half).toNat ∧
    (768 : Half).toNat = numbered (767 : Fin 768) ∧ (∀ c, TakenAtOnce .A (.readCircuit c) State.reset) ∧
    1536 < (1537 : Half).toNat ∧ (1536 : Half).toNat = numbered (1535 : Fin 1536) ∧
    (∀ p c, TakenAtOnce .A (.readPlayback p c) (computing [])) ∧ number 6 (6 : Byte).toNat = some 5 :=
  ⟨fun _ => resetTakes _ rfl, by decide, by decide +kernel, fun _ => resetTakes _ rfl, by decide,
    by decide +kernel, fun _ _ => ⟨⟨rfl, rfl, rfl⟩, rfl, rfl, rfl, .inr rfl⟩, by decide⟩

/-! ### A state in which every invariant holds and a step goes on -/

/-- Playback 1 fading with a follow pending, and a command waiting. -/
def ticking : State :=
  { show1 (onTheMove .fading (some 1) (some 500000) 0) with pending := [.showClockTick] }

theorem ticking_steps : ∃ t, step ticking = .next t := ⟨_, rfl⟩

theorem cue_legal : ∀ c ∈ list1, c.Legal := by
  have h : ∀ c ∈ list1, (1 ≤ c.number ∧ c.number ≤ 9999) ∧
      (c.upTime ≤ 6000 ∧ c.downTime ≤ 6000 ∧ c.upDelay ≤ 6000 ∧ c.downDelay ≤ 6000) ∧
      (∀ f ∈ c.follow, f ≤ 6000) ∧ (∀ k ∈ c.link, 1 ≤ k ∧ k ≤ 9999) ∧
      c.entries.Pairwise fun a b => a.channel < b.channel := by decide +kernel
  exact fun c hc => ⟨(h c hc).1, (h c hc).2.1, (h c hc).2.2.1, (h c hc).2.2.2.1, (h c hc).2.2.2.2⟩

theorem test_witness_StepKeepsTheCueStore : CueStoreInv ticking ∧ ∃ t, step ticking = .next t := by
  refine ⟨⟨⟨by decide +kernel, ?_, by decide +kernel, by decide +kernel⟩, fun i h => by cases h⟩,
    ticking_steps⟩
  have h : ∀ l : Fin 8, ticking.lists.get l = list1 ∨ ticking.lists.get l = [] := by decide +kernel
  intro l c hc
  rcases h l with e | e <;> rw [e] at hc
  · exact cue_legal c hc
  · cases hc

theorem test_witness_StepKeepsThePlaybacks : PlaybacksInv ticking ∧ ∃ t, step ticking = .next t := by
  refine ⟨⟨?_, fun i h => by cases h⟩, ticking_steps⟩
  have h : ticking.playbacks.all legal = true := by decide +kernel
  exact fun p => legal_sound (Table.all_iff.mp h p)

/-- R19 checked on one fade record. -/
def recordLegal (r : FadeRecord) : Bool :=
  decide (r.start ≤ 4095) && decide (r.target ≤ 4095) && decide (r.moving = false → r.level = r.target) &&
    decide (min r.start r.target ≤ r.level ∧ r.level ≤ max r.start r.target ∨ r.moving = false)

theorem recordLegal_sound {r : FadeRecord} (h : recordLegal r = true) : r.Legal := by
  simp only [recordLegal, Bool.and_eq_true, decide_eq_true_eq] at h
  exact ⟨h.1.1.1, h.1.1.2, h.1.2, h.2⟩

theorem afterReset_legal (b : Fin 4) : (ScanRecord.afterReset b).Legal := by
  constructor <;> intros <;> simp [ScanRecord.afterReset]

theorem test_witness_StepKeepsTheLevelScales : LevelsInv ticking ∧ ∃ t, step ticking = .next t := by
  refine ⟨⟨?_, ?_, afterReset_legal 0, afterReset_legal 0, ?_, ?_, fun i h => by cases h⟩, ticking_steps⟩
  · intro d c
    cases d <;> exact (Table.get_fill c 0).le.trans (by decide)
  · have h : ticking.playbacks.all (fun p => p.records.all recordLegal) = true := by decide +kernel
    exact fun p c => recordLegal_sound (Table.all_iff.mp (Table.all_iff.mp h p) c)
  · have h : ∀ l, ticking.links.get l = .afterPowerOn true 15 := by decide +kernel
    intro l x hx
    rw [h l] at hx
    simp [Transmitter.afterPowerOn] at hx
  · intro b k
    show (((Table.fill 4 (Table.fill 1536 CircuitRecord.default)).get b).get k).proportion ≤ 100
    rw [Table.get_fill, Table.get_fill]
    decide

theorem test_witness_StepKeepsTheSettings : SettingsInv ticking ∧ ∃ t, step ticking = .next t := by
  refine ⟨⟨rfl, ?_, ?_, ?_, by decide +kernel, by decide +kernel, by decide +kernel, ?_, by decide +kernel,
    by decide +kernel, fun i h => by cases h⟩, ticking_steps⟩
  · intro d
    cases d <;> exact ⟨⟨by decide, by decide, by decide⟩, by decide⟩
  · intro d
    cases d <;> exact ⟨fun _ => rfl, fun _ => rfl⟩
  · intro d h
    cases d <;> cases h
  · have h : ticking.patch.laws.all (fun l => match l with
        | .switch _ _ => false
        | _ => true) = true := by decide +kernel
    intro l
    have := Table.all_iff.mp h l
    revert this
    cases ticking.patch.laws.get l <;> simp [Law.legal]

theorem test_witness_StepKeepsTheCommandBuffers : PortsInv ticking ∧ ∃ t, step ticking = .next t := by
  refine ⟨⟨?_, by decide, ?_⟩, ticking_steps⟩
  · intro d
    cases d <;> exact ⟨by decide, rfl, by simp [ticking, show1, State.reset, DeskUnit.factory, State.desk,
      State.setPlayback, State.setList], by simp [ticking, show1, State.reset, DeskUnit.factory, State.desk,
      State.setPlayback, State.setList], fun _ => rfl⟩
  · intro d
    simp [ticking, show1, State.reset, State.setPlayback, State.setList, LevelProcessor.afterReset]

theorem test_witness_StepKeepsTheHeldRequests : HeldInv ticking ∧ ∃ t, step ticking = .next t :=
  ⟨⟨fun _ => rfl, by decide, by decide, by decide⟩, ticking_steps⟩

theorem test_witness_StepKeepsTheRackLinks : LinksInv ticking ∧ ∃ t, step ticking = .next t := by
  refine ⟨?_, ticking_steps⟩
  have h : ∀ l, ticking.links.get l = .afterPowerOn true 15 := by decide +kernel
  intro l
  rw [h l]
  exact ⟨fun _ => ⟨rfl, rfl, rfl⟩, (fun _ e => by cases e), .nil, (fun e => by cases e),
    fun _ e => by cases e⟩

theorem test_witness_StepKeepsTheTriggerUnit : TriggersInv ticking ∧ ∃ t, step ticking = .next t :=
  ⟨⟨by decide +kernel, by decide +kernel, by decide +kernel, by decide +kernel, by decide +kernel,
    fun i h => by cases h⟩, ticking_steps⟩

end Sys2Proof.Machine.Tests
end

section
/-! PROOFS. The cue store as lists in ascending cue number: what a lookup finds, what an edit leaves, and the
totals (R1, R2, R5, R8, R9, R11, R12). -/

namespace Sys2Proof.Machine

/-! ### Searches in an ordered list -/

/-- A list in strictly ascending key: a search finds the least item that satisfies the predicate. -/
theorem find?_eq_some_iff_least {α β : Type} [LinearOrder β] {key : α → β} {p : α → Bool} {l : List α}
    (h : l.Pairwise fun a b => key a < key b) {c : α} :
    l.find? p = some c ↔ c ∈ l ∧ p c = true ∧ ∀ x ∈ l, p x = true → key c ≤ key x := by
  induction l with
  | nil => simp
  | cons a rest ih =>
    obtain ⟨first, rest'⟩ := List.pairwise_cons.mp h
    by_cases pa : p a = true
    · rw [List.find?_cons_of_pos pa]
      constructor
      · rintro ⟨⟩
        exact ⟨List.mem_cons_self .., pa, List.forall_mem_cons.mpr
          ⟨fun _ => le_refl _, fun x hx _ => (first x hx).le⟩⟩
      · rintro ⟨hc, -, least⟩
        obtain rfl | hc := List.mem_cons.mp hc
        · rfl
        · exact absurd (least a (List.mem_cons_self ..) pa) (first c hc).not_ge
    · rw [List.find?_cons_of_neg pa, ih rest', List.mem_cons, List.forall_mem_cons]
      constructor
      · rintro ⟨hc, pc, least⟩
        exact ⟨.inr hc, pc, fun k => absurd k pa, least⟩
      · rintro ⟨rfl | hc, pc, -, least⟩
        · exact absurd pc pa
        · exact ⟨hc, pc, least⟩

/-- A cue list in strictly ascending cue number (R1). -/
abbrev CueList.Ordered (l : CueList) : Prop := l.Pairwise fun a b => a.number < b.number

/-! ### Lookups (R11) -/

theorem CueList.at_eq_some {l : CueList} (h : l.Ordered) {n : Nat} {c : Cue} :
    l.at n = some c ↔ c ∈ l ∧ c.number = n := by
  unfold CueList.at
  rw [find?_eq_some_iff_least h]
  simp only [beq_iff_eq]
  exact ⟨fun ⟨hc, e, _⟩ => ⟨hc, e⟩, fun ⟨hc, e⟩ => ⟨hc, e, fun x _ k => (e.trans k.symm).le⟩⟩

theorem CueList.at_eq_none {l : CueList} {n : Nat} : l.at n = none ↔ ∀ c ∈ l, c.number ≠ n := by
  simp [CueList.at]

theorem CueList.number_of_at {l : CueList} {n : Nat} {c : Cue} (h : l.at n = some c) : c.number = n := by
  simpa using List.find?_some h

theorem CueList.mem_of_at {l : CueList} {n : Nat} {c : Cue} (h : l.at n = some c) : c ∈ l :=
  List.mem_of_find?_eq_some h

theorem CueList.at_isNone {l : CueList} {n : Nat} : (l.at n).isNone = true ↔ ∀ c ∈ l, c.number ≠ n := by
  rw [Option.isNone_iff_eq_none, CueList.at_eq_none]

theorem CueList.first_eq_some {l : CueList} (h : l.Ordered) {c : Cue} :
    l.first = some c ↔ c ∈ l ∧ ∀ x ∈ l, c.number ≤ x.number := by
  have all : l.first = l.find? fun _ => true := by cases l <;> rfl
  rw [all, find?_eq_some_iff_least h]
  simp only [true_and, forall_const]

theorem CueList.above_eq_some {l : CueList} (h : l.Ordered) {n : Nat} {c : Cue} :
    l.above n = some c ↔ c ∈ l ∧ n < c.number ∧ ∀ x ∈ l, n < x.number → c.number ≤ x.number := by
  unfold CueList.above
  rw [find?_eq_some_iff_least h]
  simp only [decide_eq_true_eq]

/-- The cue below is found from the far end, where the numbers descend. -/
theorem CueList.below_eq_some {l : CueList} (h : l.Ordered) {n : Nat} {c : Cue} :
    l.below n = some c ↔ c ∈ l ∧ c.number < n ∧ ∀ x ∈ l, x.number < n → x.number ≤ c.number := by
  have descending : l.reverse.Pairwise fun a b => OrderDual.toDual a.number < OrderDual.toDual b.number :=
    List.pairwise_reverse.mpr h
  unfold CueList.below
  rw [List.getLast?_filter, find?_eq_some_iff_least descending]
  simp only [List.mem_reverse, decide_eq_true_eq, OrderDual.toDual_le_toDual]

/-! ### Levels and the tracked state (R2, R12) -/

theorem Cue.levelOf_eq_some {c : Cue} (h : c.entries.Pairwise fun a b => a.channel < b.channel)
    {ch : Fin 768} {v : Byte} :
    c.levelOf ch = some v ↔ ∃ e ∈ c.entries, e.channel = ch ∧ e.level = v := by
  unfold Cue.levelOf
  simp only [Option.map_eq_some_iff, find?_eq_some_iff_least h, beq_iff_eq]
  constructor
  · rintro ⟨e, ⟨he, ec, -⟩, ev⟩
    exact ⟨e, he, ec, ev⟩
  · rintro ⟨e, he, ec, ev⟩
    exact ⟨e, ⟨he, ec, fun x _ k => (ec.trans k.symm).le⟩, ev⟩

/-- The tracked level is that of the last cue at or below the number that includes the channel. -/
theorem CueList.tracked_of_last {l : CueList} (h : l.Ordered) {n : Nat} {ch : Fin 768} {c : Cue} {v : Byte}
    (hc : c ∈ l) (hn : c.number ≤ n) (hv : c.levelOf ch = some v)
    (later : ∀ x ∈ l, c.number < x.number → x.number ≤ n → x.levelOf ch = none) : l.tracked n ch = v := by
  have hmem : c ∈ (l.filter fun c => decide (c.number ≤ n)).reverse := by simp [hc, hn]
  have descending : (l.filter fun c => decide (c.number ≤ n)).reverse.Pairwise
      fun a b => b.number < a.number := List.pairwise_reverse.mpr (h.filter _)
  obtain ⟨before, after, split⟩ := List.append_of_mem hmem
  have greater : ∀ x ∈ before, c.number < x.number := fun x hx =>
    (List.pairwise_append.mp (split ▸ descending)).2.2 x hx c (List.mem_cons_self ..)
  have found : (l.filter fun c => decide (c.number ≤ n)).reverse.findSome? (fun c => c.levelOf ch) =
      some v := by
    refine List.findSome?_eq_some_iff.mpr ⟨before, c, after, split, hv, fun x hx => ?_⟩
    have hx' : x ∈ (l.filter fun c => decide (c.number ≤ n)).reverse := by simp [split, hx]
    simp only [List.mem_reverse, List.mem_filter, decide_eq_true_eq] at hx'
    exact later x hx'.1 (greater x hx) hx'.2
  simp only [CueList.tracked, found, Option.getD_some]

theorem CueList.tracked_of_none {l : CueList} {n : Nat} {ch : Fin 768}
    (h : ∀ x ∈ l, x.number ≤ n → x.levelOf ch = none) : l.tracked n ch = 0 := by
  have nothing : (l.filter fun c => decide (c.number ≤ n)).reverse.findSome? (fun c => c.levelOf ch) =
      none := by
    simpa [List.findSome?_eq_none_iff] using h
  simp only [CueList.tracked, nothing, Option.getD_none]

/-! ### Edits (R8, R9) -/

theorem CueList.mem_put {l : CueList} (h : l.Ordered) {c x : Cue} :
    x ∈ l.put c ↔ x = c ∨ x ∈ l ∧ x.number ≠ c.number := by
  induction l with
  | nil => simp [CueList.put]
  | cons a rest ih =>
    obtain ⟨first, rest'⟩ := List.pairwise_cons.mp h
    have later : ∀ y ∈ rest, c.number ≤ a.number → y.number ≠ c.number := fun y hy k =>
      (k.trans_lt (first y hy)).ne'
    unfold CueList.put
    split
    · rename_i lt
      simp only [List.mem_cons]
      constructor
      · rintro (rfl | rfl | hx)
        · exact .inl rfl
        · exact .inr ⟨.inl rfl, lt.ne'⟩
        · exact .inr ⟨.inr hx, later x hx lt.le⟩
      · rintro (rfl | ⟨hx, -⟩)
        · exact .inl rfl
        · exact .inr hx
    · split
      · rename_i eq
        simp only [List.mem_cons]
        constructor
        · rintro (rfl | hx)
          · exact .inl rfl
          · exact .inr ⟨.inr hx, later x hx eq.le⟩
        · rintro (rfl | ⟨rfl | hx, ne⟩)
          · exact .inl rfl
          · exact absurd eq.symm ne
          · exact .inr hx
      · rename_i ne
        simp only [List.mem_cons, ih rest']
        constructor
        · rintro (rfl | rfl | ⟨hx, k⟩)
          · exact .inr ⟨.inl rfl, fun e => ne e.symm⟩
          · exact .inl rfl
          · exact .inr ⟨.inr hx, k⟩
        · rintro (rfl | ⟨rfl | hx, k⟩)
          · exact .inr (.inl rfl)
          · exact .inl rfl
          · exact .inr (.inr ⟨hx, k⟩)

theorem CueList.Ordered.put {l : CueList} (h : l.Ordered) (c : Cue) : CueList.Ordered (l.put c) := by
  induction l with
  | nil => exact List.pairwise_singleton _ _
  | cons a rest ih =>
    obtain ⟨first, rest'⟩ := List.pairwise_cons.mp h
    unfold CueList.put
    split
    · rename_i lt
      exact List.pairwise_cons.mpr ⟨List.forall_mem_cons.mpr
        ⟨lt, fun y hy => lt.trans (first y hy)⟩, h⟩
    · split
      · rename_i eq
        exact List.pairwise_cons.mpr ⟨fun y hy => eq ▸ first y hy, rest'⟩
      · rename_i lt ne
        refine List.pairwise_cons.mpr ⟨fun y hy => ?_, ih rest'⟩
        obtain rfl | ⟨hy, -⟩ := (CueList.mem_put rest').mp hy
        · omega
        · exact first y hy

theorem CueList.at_put_self {l : CueList} (h : l.Ordered) (c : Cue) : (l.put c).at c.number = some c :=
  (CueList.at_eq_some (h.put c)).mpr ⟨(CueList.mem_put h).mpr (.inl rfl), rfl⟩

theorem CueList.at_put_of_ne {l : CueList} (h : l.Ordered) {c : Cue} {n : Nat} (ne : n ≠ c.number) :
    (l.put c).at n = l.at n := by
  refine Option.ext fun x => ?_
  rw [CueList.at_eq_some (h.put c), CueList.at_eq_some h, CueList.mem_put h]
  constructor
  · rintro ⟨rfl | ⟨hx, -⟩, rfl⟩
    · exact absurd rfl ne
    · exact ⟨hx, rfl⟩
  · rintro ⟨hx, rfl⟩
    exact ⟨.inr ⟨hx, ne⟩, rfl⟩

/-- Any sum over the cues of a list, after a cue is put in: the new cue's share is added and that of the cue
it replaces taken away (R5, R8). -/
theorem CueList.sum_put {l : CueList} (h : l.Ordered) (c : Cue) (share : Cue → Nat) :
    ((l.put c).map share).sum + ((l.at c.number).map share).getD 0 = (l.map share).sum + share c := by
  induction l with
  | nil => simp [CueList.put, CueList.at]
  | cons a rest ih =>
    obtain ⟨first, rest'⟩ := List.pairwise_cons.mp h
    unfold CueList.put
    split
    · rename_i lt
      have none : CueList.at (a :: rest) c.number = none := CueList.at_eq_none.mpr
        (List.forall_mem_cons.mpr ⟨lt.ne', fun y hy => (lt.trans (first y hy)).ne'⟩)
      simp only [none, List.map_cons, List.sum_cons, Option.map_none, Option.getD_none]
      omega
    · split
      · rename_i eq
        have replaced : CueList.at (a :: rest) c.number = some a := by simp [CueList.at, eq]
        simp only [replaced, List.map_cons, List.sum_cons, Option.map_some, Option.getD_some]
        omega
      · rename_i ne
        have further : CueList.at (a :: rest) c.number = CueList.at rest c.number :=
          List.find?_cons_of_neg (by simpa using fun e => ne e.symm)
        have := ih rest'
        simp only [further, List.map_cons, List.sum_cons]
        omega

theorem CueList.length_put {l : CueList} (h : l.Ordered) (c : Cue) :
    (l.put c).length = l.length + (if (l.at c.number).isSome then 0 else 1) := by
  have := CueList.sum_put h c fun _ => 1
  simp only [List.map_const', List.sum_replicate, smul_eq_mul, mul_one] at this
  cases k : CueList.at l c.number <;> simp [k] at this ⊢ <;> omega

theorem CueList.entryCount_put {l : CueList} (h : l.Ordered) (c : Cue) :
    (l.put c).entryCount + freedEntries (l.at c.number) = l.entryCount + c.entries.length := by
  have := CueList.sum_put h c fun c => c.entries.length
  have freed : freedEntries (l.at c.number) = ((l.at c.number).map fun c => c.entries.length).getD 0 := by
    cases l.at c.number <;> rfl
  rw [freed]
  exact this

theorem CueList.mem_remove {l : CueList} {n : Nat} {x : Cue} : x ∈ l.remove n ↔ x ∈ l ∧ x.number ≠ n := by
  simp [CueList.remove]

theorem CueList.Ordered.remove {l : CueList} (h : l.Ordered) (n : Nat) : CueList.Ordered (l.remove n) :=
  h.filter _

theorem CueList.at_remove_self (l : CueList) (n : Nat) : (l.remove n).at n = none :=
  CueList.at_eq_none.mpr fun _ hx => (CueList.mem_remove.mp hx).2

theorem CueList.at_remove_of_ne {l : CueList} (h : l.Ordered) {k n : Nat} (ne : n ≠ k) :
    (l.remove k).at n = l.at n := by
  refine Option.ext fun x => ?_
  rw [CueList.at_eq_some (h.remove k), CueList.at_eq_some h, CueList.mem_remove]
  constructor
  · rintro ⟨⟨hx, -⟩, e⟩
    exact ⟨hx, e⟩
  · rintro ⟨hx, rfl⟩
    exact ⟨⟨hx, ne⟩, rfl⟩

/-! ### The totals (R5) -/

/-- A sum over the rows of a table, when one row is replaced. -/
theorem sum_rows_set {α : Type} {n : Nat} (t : Table α n) (i : Fin n) (a : α) (share : α → Nat) :
    ((t.set i a).rows.map share).sum + share (t.get i) = (t.rows.map share).sum + share a := by
  have go : ∀ (l : List α) (k : Nat) (hk : k < l.length),
      ((l.set k a).map share).sum + share l[k] = (l.map share).sum + share a := by
    intro l
    induction l with
    | nil => simp
    | cons x rest ih =>
      intro k hk
      cases k with
      | zero => simp only [List.set_cons_zero, List.map_cons, List.sum_cons, List.getElem_cons_zero]; omega
      | succ k =>
        have := ih k (by simpa using hk)
        simp only [List.set_cons_succ, List.map_cons, List.sum_cons, List.getElem_cons_succ]
        omega
  rw [Table.get_eq]
  exact go t.rows i _

theorem cueCount_set (lists : Table CueList 8) (l : Fin 8) (new : CueList) :
    cueCount (lists.set l new) + (lists.get l).length = cueCount lists + new.length :=
  sum_rows_set lists l new List.length

theorem entryCount_set (lists : Table CueList 8) (l : Fin 8) (new : CueList) :
    entryCount (lists.set l new) + (lists.get l).entryCount = entryCount lists + new.entryCount :=
  sum_rows_set lists l new CueList.entryCount

theorem entryCount_le (lists : Table CueList 8) (l : Fin 8) :
    (lists.get l).entryCount ≤ entryCount lists :=
  List.single_le_sum (fun _ _ => Nat.zero_le _) _
    (List.mem_map_of_mem (Table.mem_rows.mpr ⟨l, rfl⟩))

/-- A cue put into a list changes the totals as R5 says, so the check of R7 is a check of the result. -/
theorem totals_put {lists : Table CueList 8} {l : Fin 8} (h : CueList.Ordered (lists.get l)) (c : Cue) :
    cueCount (lists.set l ((lists.get l).put c)) = cueCountAfter lists ((lists.get l).at c.number) ∧
    entryCount (lists.set l ((lists.get l).put c)) =
      entryCountAfter lists ((lists.get l).at c.number) c := by
  have k1 := cueCount_set lists l ((lists.get l).put c)
  have k2 := CueList.length_put h c
  have k3 := entryCount_set lists l ((lists.get l).put c)
  have k4 := CueList.entryCount_put h c
  have k5 := entryCount_le lists l
  unfold cueCountAfter entryCountAfter
  omega

end Sys2Proof.Machine
end

section
/-! PROOFS. O53: every step keeps the cue store in order, in range and within its totals. Three requests write
the cue store, STORE and its end write the show memory, power-on takes the image over, and everything else
leaves both as they were (R1, R2, R4, R5). -/

namespace Sys2Proof.Machine

/-! ### What a WRITE CUE carries (R7, R8) -/

theorem ascending_iff {l : List Nat} : ascending l = true ↔ l.Pairwise (· < ·) := by
  induction l with
  | nil => simp [ascending]
  | cons a rest ih =>
    cases rest with
    | nil => simp [ascending]
    | cons b rest =>
      rw [ascending, Bool.and_eq_true, decide_eq_true_eq, ih, ← List.isChain_iff_pairwise,
        ← List.isChain_iff_pairwise, List.isChain_cons_cons]

/-- The entries read are those whose channel numbers and levels came in (R7, check 4). -/
theorem readEntries_eq_some {raw : List (Nat × Byte)} {es : List Entry} :
    readEntries raw = some es ↔ es.map (fun e => (numbered e.channel, e.level)) = raw := by
  induction raw generalizing es with
  | nil =>
    rw [List.map_eq_nil_iff, readEntries, Option.some.injEq]
    exact eq_comm
  | cons x rest ih =>
    obtain ⟨ch, level⟩ := x
    rw [List.map_eq_cons_iff]
    unfold readEntries
    split
    · rename_i c more hc hmore
      have hc := number_eq_some.mp hc
      have hmore := ih.mp hmore
      constructor
      · rintro ⟨⟩
        exact ⟨⟨c, level⟩, more, rfl, by simp [hc], hmore⟩
      · rintro ⟨⟨c', level'⟩, more', rfl, head, tail⟩
        simp only [Prod.mk.injEq] at head
        obtain ⟨hc', rfl⟩ := head
        have same := (ih.mpr hmore).symm.trans (ih.mpr tail)
        simp_all [numbered_inj]
    · rename_i fails
      simp only [reduceCtorEq, false_iff, not_exists, not_and]
      rintro ⟨c, level'⟩ more rfl head tail
      simp only [Prod.mk.injEq] at head
      exact fails c more (number_eq_some.mpr head.1.symm) (ih.mpr tail)

theorem number_isSome {n k : Nat} : (number n k).isSome = true ↔ 1 ≤ k ∧ k ≤ n := by
  unfold number
  split <;> simp_all

theorem readEntries_isSome {raw : List (Nat × Byte)} :
    (readEntries raw).isSome = true ↔ ∀ e ∈ raw, 1 ≤ e.1 ∧ e.1 ≤ 768 := by
  induction raw with
  | nil => simp [readEntries]
  | cons x rest ih =>
    obtain ⟨ch, level⟩ := x
    rw [List.forall_mem_cons, ← ih, ← number_isSome]
    rw [readEntries]
    cases number 768 ch <;> cases readEntries rest <;> simp

theorem readCueRecord_eq_some {cue up down upDelay downDelay follow link : Half}
    {raw : List (Nat × Byte)} {new : Cue} :
    readCueRecord cue up down upDelay downDelay follow link raw = some new ↔
      (1 ≤ cue.toNat ∧ cue.toNat ≤ 9999 ∧ up.toNat ≤ 6000 ∧ down.toNat ≤ 6000 ∧
        upDelay.toNat ≤ 6000 ∧ downDelay.toNat ≤ 6000 ∧
        (follow.toNat = 65535 ∨ follow.toNat ≤ 6000) ∧ link.toNat ≤ 9999) ∧
      new = ⟨cue.toNat, up.toNat, down.toNat, upDelay.toNat, downDelay.toNat,
        if follow.toNat = 65535 then none else some follow.toNat,
        if link.toNat = 0 then none else some link.toNat, new.entries⟩ ∧
      new.entries.map (fun e => (numbered e.channel, e.level)) = raw := by
  have number : Config.maxCueNumber = 9999 := rfl
  have tenths : Config.maxTenths = 6000 := rfl
  unfold readCueRecord
  rw [number, tenths]
  split
  · rename_i ranges
    rw [Option.map_eq_some_iff]
    simp only [readEntries_eq_some]
    constructor
    · rintro ⟨es, hes, rfl⟩
      exact ⟨ranges, rfl, hes⟩
    · rintro ⟨-, e, hes⟩
      exact ⟨new.entries, hes, e.symm⟩
  · rename_i ranges
    simp only [reduceCtorEq, false_iff]
    exact fun h => ranges h.1

/-- A cue record that passed the checks of R7 is legal. -/
theorem readCueRecord_legal {cue up down upDelay downDelay follow link : Half} {raw : List (Nat × Byte)}
    {new : Cue} (sorted : ascending (raw.map (·.1)) = true)
    (h : readCueRecord cue up down upDelay downDelay follow link raw = some new) : new.Legal := by
  obtain ⟨⟨n1, n2, t1, t2, t3, t4, f, k⟩, shape, entries⟩ := readCueRecord_eq_some.mp h
  have channels : new.entries.Pairwise fun a b => numbered a.channel < numbered b.channel := by
    rw [ascending_iff, ← entries, List.map_map, List.pairwise_map] at sorted
    exact sorted
  rw [shape]
  refine ⟨⟨n1, n2⟩, ⟨t1, t2, t3, t4⟩, fun x hx => ?_, fun x hx => ?_,
    channels.imp Nat.lt_of_succ_lt_succ⟩
  · simp only [Option.mem_def, Option.ite_none_left_eq_some, Option.some.injEq] at hx
    omega
  · simp only [Option.mem_def, Option.ite_none_left_eq_some, Option.some.injEq] at hx
    omega

/-! ### The three requests that write the cue store (R8 to R10) -/

theorem CuesLegal.empty : CuesLegal (Table.fill 8 []) where
  ordered l := by simp
  legal l := by simp
  cues := by decide
  entries := by decide

/-- A list replaced by another that is in order, holds legal cues and keeps the totals. -/
theorem CuesLegal.set {lists : Table CueList 8} (h : CuesLegal lists) {l : Fin 8} {new : CueList}
    (ordered : new.Ordered) (legal : ∀ c ∈ new, c.Legal) (cues : cueCount (lists.set l new) ≤ 1000)
    (entries : entryCount (lists.set l new) ≤ 32768) : CuesLegal (lists.set l new) where
  ordered k := by
    rw [Table.get_set]
    split
    · exact ordered
    · exact h.ordered k
  legal k := by
    rw [Table.get_set]
    split
    · exact legal
    · exact h.legal k
  cues := cues
  entries := entries

/-- A list of which only some cues are left. -/
theorem CuesLegal.sublist {lists : Table CueList 8} (h : CuesLegal lists) {l : Fin 8} {left : CueList}
    (sub : left.Sublist (lists.get l)) : CuesLegal (lists.set l left) := by
  have cues := cueCount_set lists l left
  have entries := entryCount_set lists l left
  have fewer := sub.length_le
  have less : left.entryCount ≤ (lists.get l).entryCount :=
    (sub.map _).sum_le_sum fun _ _ => Nat.zero_le _
  have cues' := h.cues
  have entries' := h.entries
  exact h.set ((h.ordered l).sublist sub) (fun c hc => h.legal l c (sub.mem hc)) (by omega) (by omega)

theorem CuesLegal.put {lists : Table CueList 8} (h : CuesLegal lists) (l : Fin 8) {c : Cue} (legal : c.Legal)
    (cues : cueCountAfter lists ((lists.get l).at c.number) ≤ 1000)
    (entries : entryCountAfter lists ((lists.get l).at c.number) c ≤ 32768) :
    CuesLegal (lists.set l ((lists.get l).put c)) := by
  obtain ⟨k1, k2⟩ := totals_put (h.ordered l) c
  refine h.set (CueList.Ordered.put (h.ordered l) c) (fun x hx => ?_) (k1.le.trans cues) (k2.le.trans entries)
  obtain rfl | ⟨hx, -⟩ := (CueList.mem_put (h.ordered l)).mp hx
  · exact legal
  · exact h.legal l x hx

/-! ### What leaves the cue store and the show memory as they are -/

/-- Two states with the same cue store and the same show memory. -/
structure SameStore (s t : State) : Prop where
  lists : t.lists = s.lists
  memory : t.memory = s.memory

theorem SameStore.rfl (s : State) : SameStore s s := ⟨.refl _, .refl _⟩

theorem SameStore.trans {s t u : State} (h : SameStore s t) (k : SameStore t u) : SameStore s u :=
  ⟨k.lists.trans h.lists, k.memory.trans h.memory⟩

theorem SameButEvents.sameStore {s t : State} (h : SameButEvents s t) : SameStore s t := ⟨h.lists, h.memory⟩

theorem CueStoreInv.of_same {s t : State} (h : CueStoreInv s) (k : SameStore s t) : CueStoreInv t :=
  ⟨k.lists ▸ h.store, k.memory ▸ h.image⟩

theorem SameStore.raiseEvent (e : Event) (s : State) : SameStore s (raiseEvent e s) :=
  (SameButEvents.raiseEvent e s).sameStore

theorem SameStore.applyMoved (p : Fin 6) (m : Moved) (s : State) :
    SameStore s (applyMoved Machine.raiseEvent p m s) :=
  (SameButEvents.applyMoved (fun e s => .raiseEvent e s) p m s).sameStore

theorem SameStore.checkTimeout (d : Desk) (s : State) : SameStore s (checkTimeout d s) := by
  obtain ⟨-, h⟩ | ⟨-, h⟩ := checkTimeout_cases d s <;> rw [h]
  · exact .rfl s
  · exact (SameStore.mk (by simp) (by simp)).trans (.raiseEvent _ _)

theorem SameStore.expireFade (d : Desk) (s : State) : SameStore s (expireFade d s) := by
  obtain ⟨-, h⟩ | ⟨-, h⟩ := expireFade_cases d s <;> rw [h]
  · exact .rfl s
  · exact ⟨by simp, by simp⟩

theorem SameStore.setContact (s : State) (c : Fin 4) (x : Contact) : SameStore s (s.setContact c x) :=
  ⟨.refl _, .refl _⟩

theorem SameStore.acceptContact (c : Fin 4) (s : State) : SameStore s (acceptContact c s) := by
  obtain h | h := acceptContact_cases c s <;> rw [h]
  · exact .setContact s c _
  · exact (SameStore.setContact s c _).trans (.raiseEvent _ _)

theorem SameStore.debounceEnd (c : Fin 4) (s : State) : SameStore s (debounceEnd c s) := by
  unfold Machine.debounceEnd
  split
  · exact .acceptContact c s
  · exact .rfl s

theorem SameStore.restartPart (d : Desk) (s : State) : SameStore s (restartPart d s) := ⟨.refl _, .refl _⟩

theorem SameStore.scanStart (s : State) : SameStore s (scanStart s) := by
  have swapped : ∀ u, SameStore u (swapTest u) := by
    intro u
    unfold swapTest
    (repeat' split) <;> exact ⟨.refl _, .refl _⟩
  have worked : ∀ n u, SameStore u (playbackScanWork n u) := fun n u =>
    foldl_keeps (P := SameStore u)
      (fun v p h => by
        split
        · exact h.trans (SameButEvents.goTaken v p).sameStore
        · exact h) _ ⟨.refl _, .refl _⟩
  have latched : ∀ n u, SameStore u (clearHoldoff (latchStep n u)) := fun _ _ => ⟨.refl _, .refl _⟩
  have computed : ∀ u, SameStore u (computeStep u) := fun _ => ⟨.refl _, .refl _⟩
  have begun : SameStore s (beginScan s) := ⟨.refl _, .refl _⟩
  exact (begun.trans ((swapped _).trans (latched _ _))).trans ((worked _ _).trans (computed _))

/-! ### The owners -/

/-- The requests to a playback (R24). -/
def Request.onPlayback : Request → Bool
  | .go .. | .goto .. | .back .. | .pause .. | .resume .. | .release .. => true
  | .loadList .. | .unload .. | .setMaster .. | .setRate .. | .setPlaybackTimes .. => true
  | _ => false

/-- A request to a playback changes that playback and what its events change, and nothing else. -/
theorem SameButEvents.playbackOwner {r : Request} (h : r.onPlayback = true) (s : State) :
    SameButEvents s (perform r s).state := by
  have request : ∀ {n : Byte} {take : Fin 6 → State × Result}, (∀ p, SameButEvents s (take p).1) →
      SameButEvents s (playbackRequest n s take).state := by
    intro n take h
    unfold playbackRequest
    split
    · exact .rfl s
    · exact h _
  have moved := SameButEvents.applyMoved SameButEvents.raiseEvent
  cases r with
  | go p =>
    refine request fun p => ?_
    obtain ⟨x, h⟩ | ⟨m, x, h⟩ := goPlayback_cases Machine.raiseEvent p s <;> rw [h]
    · exact .rfl s
    · exact moved p m s
  | goto p cue ovr =>
    refine request fun p => ?_
    obtain ⟨x, h⟩ | ⟨m, x, h⟩ := gotoPlayback_cases Machine.raiseEvent p cue ovr s <;> rw [h]
    · exact .rfl s
    · exact moved p m s
  | back p =>
    refine request fun p => ?_
    obtain ⟨x, h⟩ | ⟨m, x, h⟩ := backPlayback_cases Machine.raiseEvent p s <;> rw [h]
    · exact .rfl s
    · exact moved p m s
  | pause p =>
    refine request fun p => ?_
    obtain ⟨x, h⟩ | ⟨pb, x, h⟩ := pausePlayback_cases p s <;> rw [h]
    · exact .rfl s
    · exact .setPlayback s p pb
  | resume p =>
    refine request fun p => ?_
    obtain ⟨x, h⟩ | ⟨pb, x, h⟩ := resumePlayback_cases p s <;> rw [h]
    · exact .rfl s
    · exact .setPlayback s p pb
  | release p =>
    refine request fun p => ?_
    obtain ⟨x, h⟩ | ⟨pb, x, h⟩ := releasePlayback_cases p s <;> rw [h]
    · exact .rfl s
    · exact .setPlayback s p pb
  | loadList p list =>
    refine request fun p => ?_
    simp only [loadListPlayback]
    (repeat' split) <;> first | exact .rfl s | exact .setPlayback s p _
  | unload p =>
    refine request fun p => ?_
    simp only [unloadPlayback]
    (repeat' split) <;> first | exact .rfl s | exact .setPlayback s p _
  | setMaster p x => exact request fun p => .setPlayback s p _
  | setRate p x =>
    simp only [Machine.perform, ownerSetRate]
    split
    · exact .rfl s
    · exact .setPlayback s _ _
  | setPlaybackTimes p x y =>
    refine request fun p => ?_
    simp only [setTimesPlayback]
    split
    · exact .rfl s
    · exact .setPlayback s p _
  | _ => cases h

/-- The four requests whose owners write the cue store or the show memory. -/
def Request.writesStore : Request → Bool
  | .writeCue .. | .deleteCue .. | .clearList .. | .store => true
  | _ => false

/-- Every other owner leaves the cue store and the show memory as they are. -/
theorem SameStore.perform {r : Request} (h : r.writesStore = false) (s : State) :
    SameStore s (perform r s).state := by
  have same : ∀ {t : State}, t.lists = s.lists → t.memory = s.memory → SameStore s t := SameStore.mk
  cases r with
  | setDesk d t act fade mrg rts =>
    simp only [Machine.perform, ownerSetDesk]
    (repeat' split) <;>
      first
        | exact .rfl s
        | exact (same (by simp) (by simp)).trans (.checkTimeout _ _)
  | setContact c e t =>
    simp only [Machine.perform, ownerSetContact]
    (repeat' split) <;>
      first
        | exact .rfl s
        | exact (SameStore.setContact s _ _).trans (.debounceEnd _ _)
        | exact .setContact s _ _
  | readDesk d c =>
    simp only [Machine.perform, ownerReadDesk]
    (repeat' split) <;> first | exact .rfl s | exact same (by simp) (by simp)
  | writeCue | deleteCue | clearList | store => cases h
  | go | goto | back | pause | resume | release | loadList | unload | setMaster | setRate
  | setPlaybackTimes => exact (SameButEvents.playbackOwner (.refl _) s).sameStore
  | _ =>
    simp only [Machine.perform, ownerSetCircuit, ownerCopyBank, ownerClearBank, ownerSelectBank,
      ownerCancelSwap, ownerLoadLaw, ownerPark, ownerUnpark,
      ownerUnparkAll, ownerSetGrandMaster, ownerBlackout, ownerSetScan, ownerSetLink, ownerSetClock,
      ownerClockAction, ownerSetWatch, ownerSetRoute, ownerTakeReports, ownerSetReportMask, ownerClearFlags,
      ownerReadStatus, ownerReadPlayback, ownerReadChannel, ownerReadCircuit, ownerReadCue,
      ownerReadBankEntry, ownerReadLaw, ownerReadTriggers, refuse]
    (repeat' split) <;> exact same (.refl _) (.refl _)

theorem CueStoreInv.setList {s : State} (h : CueStoreInv s) {l : Fin 8} {new : CueList}
    (legal : CuesLegal (s.lists.set l new)) : CueStoreInv (s.setList l new) := ⟨legal, h.image⟩

theorem CueStoreInv.ownerWriteCue {s : State} (h : CueStoreInv s) (list : Byte)
    (cue up down upDelay downDelay follow link count : Half) (bytes : List Byte) :
    CueStoreInv (ownerWriteCue list cue up down upDelay downDelay follow link count bytes s).state := by
  unfold Machine.ownerWriteCue
  split
  · exact h
  · split
    · exact h
    · split
      · exact h
      · rename_i sorted
        split
        · exact h
        · rename_i l _ _ new read
          unfold writeCheckedCue
          simp only
          split
          · rename_i room
            exact h.setList (h.store.put _ (readCueRecord_legal (by simpa using sorted) read) room.1 room.2)
          · exact h

/-- Every owner keeps the cue store legal, and STORE takes its image from a legal store. -/
theorem CueStoreInv.perform {s : State} (h : CueStoreInv s) (r : Request) :
    CueStoreInv (perform r s).state := by
  cases r with
  | writeCue list cue up down upDelay downDelay follow link count bytes => exact h.ownerWriteCue ..
  | deleteCue list cue =>
    simp only [Machine.perform, ownerDeleteCue]
    (repeat' split) <;> first | exact h | exact h.setList (h.store.sublist List.filter_sublist)
  | clearList list =>
    simp only [Machine.perform, ownerClearList]
    split
    · exact h
    · exact h.setList (h.store.sublist (List.nil_sublist _))
  | store => exact ⟨h.store, fun i hi => by cases hi; exact h.store⟩
  | _ => exact h.of_same (.perform rfl s)

/-! ### Commands and compute end -/

/-- A predicate that the command processor's own writes and every owner keep. -/
structure KeptByCommands (P : State → Prop) : Prop where
  port : ∀ d p s, P s → P (s.setPort d p)
  processor : ∀ p s, P s → P { s with processor := p }
  held : ∀ h s, P s → P (s.setHeld h)
  owner : ∀ r s, P s → P (perform r s).state

theorem KeptByCommands.answer {P : State → Prop} (h : KeptByCommands P) (d : Desk) (c : Command) {a : Answer}
    (ha : P a.state) : P (answer d c a) :=
  h.processor _ _ (h.port _ _ _ (h.port _ _ _ ha))

theorem KeptByCommands.takeCommand {P : State → Prop} (h : KeptByCommands P) (d : Desk) (c : Command)
    {s : State} (hs : P s) : P (takeCommand d c s) := by
  have begun : P (beginCommand d c s) := h.processor _ _ (h.port _ _ _ hs)
  unfold Machine.takeCommand dispatch
  simp only
  split
  · exact h.answer d c begun
  · split
    · exact h.processor _ _ (h.held _ _ begun)
    · split
      · exact h.port _ _ _ (h.port _ _ _ begun)
      · exact h.answer d c (h.owner _ _ begun)

theorem KeptByCommands.arbitrate {P : State → Prop} (h : KeptByCommands P) {s : State} (hs : P s) :
    P (arbitrate s) := by
  suffices ∀ n s, P s → P (arbitrateWithin n s) from this 2 s hs
  intro n
  induction n with
  | zero => exact fun _ hs => hs
  | succ n ih =>
    intro s hs
    unfold arbitrateWithin
    split
    · exact ih _ (h.takeCommand _ _ hs)
    · exact hs

/-- A predicate kept by the command processor's own writes and by every owner is kept by the arrival of a
command, with all that it sets off. -/
theorem KeptByCommands.commandArrives {P : State → Prop} (h : KeptByCommands P) (d : Desk) (c : Command)
    {s : State} (hs : P s) : P (commandArrives d c s) := by
  unfold Machine.commandArrives
  split
  · exact h.arbitrate (h.port _ _ _ hs)
  all_goals
    split
    · exact h.port _ _ _ hs
    · exact hs

theorem KeptByCommands.takeHeld {P : State → Prop} (h : KeptByCommands P)
    (task : ∀ r t s, P s → P (takeTask raiseEvent r t s)) (x : Held) {s : State} (hs : P s) :
    P (takeHeld x s) := by
  cases x with
  | command d c r => exact h.answer d c (h.owner r _ (h.processor _ _ hs))
  | task r t => exact task r t s hs

theorem CueStoreInv.keptByCommands : KeptByCommands CueStoreInv where
  port _ _ _ h := h.of_same ⟨by simp, by simp⟩
  processor _ _ h := h.of_same ⟨rfl, rfl⟩
  held _ _ h := h.of_same ⟨rfl, rfl⟩
  owner r _ h := h.perform r

theorem SameStore.postSets (s : State) : SameStore s (postSets s) := by
  have skipped : ∀ (links : List (Fin 4)) (u : State), SameStore u (raiseSkipped links u) := fun links u =>
    foldl_keeps (P := SameStore u) (fun v _ h => h.trans (SameButEvents.report _ v).sameStore) links (.rfl u)
  have posted : ∀ (links : Table Transmitter 4) (n : Nat),
      SameStore s { s with links := links, choices := n } := fun _ _ => ⟨.refl _, .refl _⟩
  unfold Machine.postSets raiseSkippedFreely
  simp only
  split
  · exact posted _ _
  · exact (posted _ _).trans (skipped _ _)
  · exact (posted _ _).trans (skipped _ _)

theorem SameStore.darkTest (s : State) : SameStore s (darkTest s) := by
  unfold Machine.darkTest
  simp only
  (repeat' split) <;> exact ⟨.refl _, .refl _⟩

theorem SameStore.swapDone (s : State) : SameStore s (swapDone s) := by
  have level : ∀ (u : State) (x : LevelProcessor), SameStore u { u with level := x } :=
    fun _ _ => ⟨.refl _, .refl _⟩
  unfold Machine.swapDone
  split
  · exact (SameStore.raiseEvent _ s).trans (level _ _)
  · exact .rfl s

theorem SameStore.scanWorkEvents (s : State) : SameStore s (scanWorkEvents s) := by
  have cleared : ∀ t : Table Playback 6, SameStore s { s with playbacks := t } :=
    fun _ => ⟨.refl _, .refl _⟩
  exact (cleared _).trans (SameButEvents.raiseAll _ _).sameStore

theorem SameStore.evaluateWatch (s : State) (w : Fin 8) : SameStore s (evaluateWatch s w) := by
  have set : ∀ x, SameStore s (s.setWatch w x) := fun _ => ⟨.refl _, .refl _⟩
  unfold Machine.evaluateWatch
  simp only
  split
  · exact (set _).trans (.raiseEvent _ _)
  · exact set _

theorem CueStoreInv.computeEnd {s : State} (h : CueStoreInv s) : CueStoreInv (computeEnd s) := by
  refine computeEnd_keeps (fun u k => ?_) (fun x rest u k => ?_) (fun u k => k.of_same (.darkTest u))
    (fun u k => k.of_same (.swapDone u)) (fun u k => k.of_same (.scanWorkEvents u))
    (fun u w k => k.of_same (.evaluateWatch u w)) (fun u k => k.of_same ⟨rfl, rfl⟩)
    (fun u k => CueStoreInv.keptByCommands.arbitrate k) h
  · have waiting : SameStore u { u with level := { u.level with phase := .waiting } } := ⟨rfl, rfl⟩
    exact k.of_same (waiting.trans (.postSets _))
  · exact CueStoreInv.keptByCommands.takeHeld
      (fun r t v kv => kv.of_same (SameButEvents.takeTask SameButEvents.raiseEvent r t v).sameStore) x
      (k.of_same ⟨rfl, rfl⟩)

/-! ### Power, replies and the show memory -/

/-- Power-on takes the lists of a legal image, or empty ones (R16, R172). -/
theorem CueStoreInv.powerOn {s : State} (h : CueStoreInv s) : CueStoreInv (powerOn s) := by
  have handed : CuesLegal s.memory.handedOver.lists := by
    cases hm : s.memory with
    | valid image => exact h.image image (by simp [hm, ShowMemory.image])
    | invalid => exact .empty
    | storing image since => exact .empty
  refine ⟨handed, fun i hi => ?_⟩
  cases hm : s.memory with
  | valid image =>
    simp only [Machine.powerOn, hm, ShowMemory.atPowerOn] at hi
    exact h.image i (by rw [hm]; exact hi)
  | invalid => simp [Machine.powerOn, hm, ShowMemory.atPowerOn, ShowMemory.image] at hi
  | storing image since => simp [Machine.powerOn, hm, ShowMemory.atPowerOn, ShowMemory.image] at hi

theorem SameStore.replyDone (d : Desk) (s : State) : SameStore s (replyDone d s) := by
  have sent : ∀ rest, SameStore s (s.setReplies d rest) := fun _ => ⟨by simp, by simp⟩
  unfold Machine.replyDone
  split
  · exact .rfl s
  · simp only
    split
    · exact sent _
    · exact sent _
    · exact ⟨by simp, by simp⟩
    · exact (sent _).trans (.restartPart d _)

theorem SameStore.restartMoment (s : State) : SameStore s (restartMoment s) := by
  unfold Machine.restartMoment
  split
  · exact .restartPart _ s
  · exact .rfl s

/-- The image of a store stands whole when the store is complete, and none is left by a write fault. -/
theorem CueStoreInv.storeCompleted {s : State} (h : CueStoreInv s) : CueStoreInv (storeCompleted s) := by
  unfold Machine.storeCompleted
  split
  · rename_i image since hm
    have valid : CueStoreInv { s with memory := .valid image } :=
      ⟨h.store, fun i hi => h.image i (by rw [hm]; exact hi)⟩
    exact valid.of_same (.raiseEvent _ _)
  · exact h
  · exact h

theorem CueStoreInv.storeFaulted {s : State} (h : CueStoreInv s) : CueStoreInv (storeFaulted s) := by
  unfold Machine.storeFaulted
  split
  · have invalid : CueStoreInv { s with memory := .invalid } := ⟨h.store, fun i hi => by cases hi⟩
    exact invalid.of_same (.raiseEvent _ _)
  · exact h
  · exact h

/-! ### Desks, contacts and clocks -/

theorem SameStore.levelsArrive (d : Desk) (base : Nat) (levels : List Byte) (s : State) :
    SameStore s (levelsArrive d base levels s) := by
  have applied : ∀ m, SameStore s (s.setMonitor d m) := fun _ => ⟨by simp, by simp⟩
  unfold Machine.levelsArrive
  simp only
  split
  · exact (applied _).trans (.raiseEvent _ _)
  · exact applied _

theorem SameStore.changeContact (c : Fin 4) (high : Bool) (s : State) :
    SameStore s (changeContact c high s) := by
  unfold Machine.changeContact
  simp only
  split
  · exact .rfl s
  · split
    · exact .setContact s c _
    · split
      · exact (SameStore.setContact s c _).trans (.acceptContact c _)
      · exact .setContact s c _

theorem SameStore.owedAdvance (c : Fin 3) (s : State) : SameStore s (owedAdvance c s) := by
  have set : ∀ x, SameStore s (s.setClock c x) := fun _ => ⟨.refl _, .refl _⟩
  unfold Machine.owedAdvance
  split
  · obtain ⟨-, h⟩ | ⟨detail, -, h⟩ := advanceClock_cases c s <;> rw [h]
    · exact set _
    · exact (set _).trans (.raiseEvent _ _)
  · exact .rfl s

/-- Every occurrence keeps the cue store and the image of it legal. -/
theorem CueStoreInv.keptByOccurrences : KeptByOccurrences CueStoreInv where
  queue _ _ h := h.of_same ⟨rfl, rfl⟩
  choice _ _ h := h.of_same ⟨rfl, rfl⟩
  power _ h := h.powerOn
  millisecond _ h := h.of_same ⟨rfl, rfl⟩
  receiver _ _ _ h := h.of_same ⟨by simp, by simp⟩
  levels d base levels s h := h.of_same (.levelsArrive d base levels s)
  command d c _ h := CueStoreInv.keptByCommands.commandArrives d c h
  timeout d s h := h.of_same (.checkTimeout d s)
  lossFade d s h := h.of_same (.expireFade d s)
  reply d s h := h.of_same (.replyDone d s)
  restart s h := h.of_same (.restartMoment s)
  scan s _ _ h := h.of_same (.scanStart s)
  compute _ _ h := h.computeEnd
  frame _ _ h := h.of_same ⟨rfl, rfl⟩
  refresh _ _ h := h.of_same ⟨rfl, rfl⟩
  input c high s h := h.of_same (.changeContact c high s)
  debounce c s h := h.of_same (.debounceEnd c s)
  clock c s h := h.of_same (.owedAdvance c s)
  stored _ h := h.storeCompleted
  faulted _ h := h.storeFaulted

/-- Settles O53: every occurrence keeps the invariant, and every step is made of occurrences. -/
theorem stepKeepsTheCueStore : Obligations.StepKeepsTheCueStore :=
  fun _ _ h step => step_keeps CueStoreInv.keptByOccurrences h step

end Sys2Proof.Machine
end

section
/-! PROOFS. A request row that is taken at once, said once for every request: its bytes are read back as the
request, and the reply is what the owner answers (R149 to R157, R179). -/

namespace Sys2Proof.Machine

/-- The command processor reads a request from its own code and parameters (R152, R179). -/
theorem parse_code_params {r : Request} (h : r.fits = true) : parse r.code r.params = .request r := by
  have laid : layout r.code.toNat r.params = some r := by
    cases r with
    | loadLaw law kind body =>
      have lengths : body.length = 17 ∨ body.length = 4 := by simpa [Request.fits] using h
      exact if_pos lengths
    | _ =>
      change some _ = some _
      simp only [half_extract, quad_extract, List.append_eq, List.nil_append]
  have known : r.code.toNat ∈ knownCodes := by
    cases r <;> simp only [Request.code] <;> decide
  simp only [parse, known, laid, if_true]

/-- The state in which a request taken at once leaves the part: its owner has answered, and the reply is
made (R156, R157). -/
theorem exec_taken {i : Instr} {d : Desk} {tag : Byte} {r : Request} {s : State}
    (row : i.request = some (d, tag, r)) (h : TakenAtOnce d r s) (notRestart : r ≠ .restart) :
    exec i s = .next
      (answered d tag r (perform r (begun d tag r s)).result
        (replyData (perform r (begun d tag r s)).result (perform r (begun d tag r s)).data)
        (perform r (begun d tag r s)).state) := by
  rw [exec_request row, requestArrives_taken h (parse_code_params h.fits) notRestart]

/-- A request whose owner answers DONE. -/
theorem exec_done {i : Instr} {d : Desk} {tag : Byte} {r : Request} {s u : State} {data : List Byte}
    (row : i.request = some (d, tag, r)) (h : TakenAtOnce d r s) (notRestart : r ≠ .restart)
    (owner : perform r (begun d tag r s) = ⟨u, .done, data⟩) :
    exec i s = .next (answered d tag r .done data u) := by
  rw [exec_taken row h notRestart, owner]
  rfl

@[simp] theorem replyData_nil (x : Result) : replyData x [] = [] := by
  unfold replyData
  split <;> rfl

/-- A request that its owner refuses: nothing changes and the reply carries no data (R157). -/
theorem exec_refused {i : Instr} {d : Desk} {tag : Byte} {r : Request} {s : State} {x : Result}
    (row : i.request = some (d, tag, r)) (h : TakenAtOnce d r s) (notRestart : r ≠ .restart)
    (owner : perform r (begun d tag r s) = refuse (begun d tag r s) x) :
    exec i s = .next (answered d tag r x [] (begun d tag r s)) := by
  rw [exec_taken row h notRestart, owner]
  simp only [refuse, replyData_nil]

/-! ### What the taking of a request leaves as it is -/

@[simp] theorem begun_lists (d : Desk) (tag : Byte) (r : Request) (s : State) :
    (begun d tag r s).lists = s.lists := by cases d <;> rfl

@[simp] theorem begun_playbacks (d : Desk) (tag : Byte) (r : Request) (s : State) :
    (begun d tag r s).playbacks = s.playbacks := by cases d <;> rfl

@[simp] theorem begun_level (d : Desk) (tag : Byte) (r : Request) (s : State) :
    (begun d tag r s).level = s.level := by cases d <;> rfl

@[simp] theorem begun_patch (d : Desk) (tag : Byte) (r : Request) (s : State) :
    (begun d tag r s).patch = s.patch := by cases d <;> rfl

@[simp] theorem begun_links (d : Desk) (tag : Byte) (r : Request) (s : State) :
    (begun d tag r s).links = s.links := by cases d <;> rfl

@[simp] theorem begun_triggers (d : Desk) (tag : Byte) (r : Request) (s : State) :
    (begun d tag r s).triggers = s.triggers := by cases d <;> rfl

@[simp] theorem begun_reports (d : Desk) (tag : Byte) (r : Request) (s : State) :
    (begun d tag r s).reports = s.reports := by cases d <;> rfl

@[simp] theorem begun_showClock (d : Desk) (tag : Byte) (r : Request) (s : State) :
    (begun d tag r s).showClock = s.showClock := by cases d <;> rfl

@[simp] theorem begun_memory (d : Desk) (tag : Byte) (r : Request) (s : State) :
    (begun d tag r s).memory = s.memory := by cases d <;> rfl

@[simp] theorem begun_processor (d : Desk) (tag : Byte) (r : Request) (s : State) :
    (begun d tag r s).processor = ⟨.executing d, d⟩ := rfl

@[simp] theorem begun_desk_receiver (d x : Desk) (tag : Byte) (r : Request) (s : State) :
    ((begun d tag r s).desk x).receiver = (s.desk x).receiver := by cases d <;> cases x <;> rfl

@[simp] theorem begun_desk_monitor (d x : Desk) (tag : Byte) (r : Request) (s : State) :
    ((begun d tag r s).desk x).monitor = (s.desk x).monitor := by cases d <;> cases x <;> rfl

end Sys2Proof.Machine
end

section
/-! PROOFS. O34, O29 and O35: the lookups and edits of a cue list, the next cue, and the three requests that
write the cue store (R1, R2, R7 to R12, R25, R178). -/

namespace Sys2Proof.Machine

/-! ### O34: lookups, levels and edits -/

theorem cueLookupsFindTheirCue : Clause.CueLookupsFindTheirCue :=
  fun _ _ h => ⟨fun _ => CueList.at_eq_some h, fun _ => CueList.first_eq_some h,
    fun _ => CueList.above_eq_some h, fun _ => CueList.below_eq_some h,
    fun _ _ _ => CueList.tracked_of_last h, fun _ => CueList.tracked_of_none⟩

theorem editingAListKeepsItsOrder : Clause.EditingAListKeepsItsOrder :=
  fun l c h => ⟨CueList.Ordered.put h c, CueList.at_put_self h c, fun _ => CueList.at_put_of_ne h,
    CueList.length_put h c, CueList.Ordered.remove h c.number, CueList.at_remove_self l c.number,
    fun _ => CueList.at_remove_of_ne h⟩

/-- Settles O34: each lookup is a search in an ordered list, and each edit is known by its members. -/
theorem cueListsAreSearchedAndEditedInOrder : Obligations.CueListsAreSearchedAndEditedInOrder :=
  ⟨cueLookupsFindTheirCue, fun _ h _ _ => Cue.levelOf_eq_some h, editingAListKeepsItsOrder⟩

/-! ### O29: the next cue (R25) -/

theorem missingLink_eq_some {l : CueList} (h : l.Ordered) {current : Option Nat} {k : Nat} :
    missingLink l current = some k ↔
      ∃ c ∈ l, current = some c.number ∧ c.link = some k ∧ ∀ x ∈ l, x.number ≠ k := by
  have linked : missingLink l current = some k ↔
      ∃ c, current.bind l.at = some c ∧ c.link = some k ∧ (l.at k).isNone = true := by
    unfold missingLink
    cases current.bind l.at <;> simp [Option.filter_eq_some_iff]
  simp only [linked, Option.bind_eq_some_iff, CueList.at_eq_some h, CueList.at_isNone]
  constructor
  · rintro ⟨c, ⟨n, rfl, hc, rfl⟩, link, missing⟩
    exact ⟨c, hc, rfl, link, missing⟩
  · rintro ⟨c, hc, rfl, link, missing⟩
    exact ⟨c, ⟨_, rfl, hc, rfl⟩, link, missing⟩

theorem nextCue_of_link {l : CueList} (h : l.Ordered) {c x : Cue} (hc : c ∈ l) (link : c.link = some x.number)
    (hx : x ∈ l) : nextCue l (some c.number) = some x := by
  simp only [nextCue, (CueList.at_eq_some h).mpr ⟨hc, rfl⟩, link, (CueList.at_eq_some h).mpr ⟨hx, rfl⟩]

/-- Without a link to a cue that is present, the next cue is the one above. -/
theorem nextCue_of_no_link {l : CueList} {n : Nat}
    (none : ∀ c ∈ l, c.number = n → ∀ k ∈ c.link, ∀ x ∈ l, x.number ≠ k) :
    nextCue l (some n) = l.above n := by
  unfold nextCue
  simp only
  split
  · rfl
  · rename_i c found
    split
    · rfl
    · rename_i k link
      have missing := CueList.at_eq_none.mpr
        (none c (CueList.mem_of_at found) (CueList.number_of_at found) k link)
      rw [missing]

/-- Settles O29, by the cases of the current cue and its link. -/
theorem nextCueFollowsTheLink : Obligations.NextCueFollowsTheLink := by
  intro l h
  refine ⟨fun c => CueList.first_eq_some h, ?_, fun _ _ => missingLink_eq_some h, fun n none x => ?_⟩
  · rintro _ c _ hc rfl link x hx rfl
    exact nextCue_of_link h hc link hx
  · rw [nextCue_of_no_link none]
    exact CueList.above_eq_some h

/-! ### O35: WRITE CUE (R7, R8) -/

/-- The fields of a WRITE CUE, without its entries, in their ranges (R2, R7, R178). -/
def CueFieldsInRange (cue up down upDelay downDelay follow link : Half) : Prop :=
  1 ≤ cue.toNat ∧ cue.toNat ≤ 9999 ∧ up.toNat ≤ 6000 ∧ down.toNat ≤ 6000 ∧ upDelay.toNat ≤ 6000 ∧
    downDelay.toNat ≤ 6000 ∧ (follow.toNat = 65535 ∨ follow.toNat ≤ 6000) ∧ link.toNat ≤ 9999

/-- Check 4 of R7 passes exactly when every field and every channel is in range. -/
theorem readCueRecord_isSome {cue up down upDelay downDelay follow link : Half}
    {raw : List (Nat × Byte)} :
    (readCueRecord cue up down upDelay downDelay follow link raw).isSome = true ↔
      CueFieldsInRange cue up down upDelay downDelay follow link ∧ ∀ e ∈ raw, 1 ≤ e.1 ∧ e.1 ≤ 768 := by
  rw [← readEntries_isSome]
  simp only [Option.isSome_iff_exists, readCueRecord_eq_some, readEntries_eq_some]
  constructor
  · rintro ⟨new, ranges, -, entries⟩
    exact ⟨ranges, new.entries, entries⟩
  · rintro ⟨ranges, es, entries⟩
    exact ⟨⟨_, _, _, _, _, _, _, es⟩, ranges, rfl, entries⟩

/-- The sequence that check 3 of R7 asks of the channels carried. -/
theorem ascending_channels (entries : List (Half × Byte)) :
    ascending ((rawEntries (entryBytes entries)).map (·.1)) = true ↔
      entries.Pairwise fun a b => a.1.toNat < b.1.toNat := by
  rw [ascending_iff, rawEntries_entryBytes, List.map_map, List.pairwise_map]
  rfl

section
variable {list : Byte} {cue up down upDelay downDelay follow link count : Half} {k : Fin 8} {s : State}
  {entries : List (Half × Byte)}

theorem entryBytes_count : (entryBytes entries).length ≠ 3 * count.toNat ↔ count.toNat ≠ entries.length := by
  rw [entryBytes_length]
  omega

theorem ownerWriteCue_wrongCount (hl : number 8 list.toNat = some k) (hn : count.toNat ≠ entries.length) :
    ownerWriteCue list cue up down upDelay downDelay follow link count (entryBytes entries) s =
      refuse s .badRequest := by
  simp only [ownerWriteCue, hl, if_pos (entryBytes_count.mpr hn)]

theorem ownerWriteCue_unsorted (hl : number 8 list.toNat = some k) (hn : count.toNat = entries.length)
    (sorted : ¬entries.Pairwise fun a b => a.1.toNat < b.1.toNat) :
    ownerWriteCue list cue up down upDelay downDelay follow link count (entryBytes entries) s =
      refuse s .badRequest := by
  rw [← ascending_channels, Bool.not_eq_true] at sorted
  simp only [ownerWriteCue, hl, if_neg (mt entryBytes_count.mp (not_not_intro hn)), sorted, Bool.not_false,
    if_true]

theorem ownerWriteCue_outOfRange (hl : number 8 list.toNat = some k) (hn : count.toNat = entries.length)
    (sorted : entries.Pairwise fun a b => a.1.toNat < b.1.toNat)
    (read : readCueRecord cue up down upDelay downDelay follow link
      (entries.map fun e => (e.1.toNat, e.2)) = none) :
    ownerWriteCue list cue up down upDelay downDelay follow link count (entryBytes entries) s =
      refuse s .outOfRange := by
  rw [← ascending_channels] at sorted
  rw [← rawEntries_entryBytes] at read
  simp only [ownerWriteCue, hl, if_neg (mt entryBytes_count.mp (not_not_intro hn)), sorted, Bool.not_true,
    Bool.false_eq_true, if_false, read]

theorem ownerWriteCue_checked {new : Cue} (hl : number 8 list.toNat = some k)
    (hn : count.toNat = entries.length) (sorted : entries.Pairwise fun a b => a.1.toNat < b.1.toNat)
    (read : readCueRecord cue up down upDelay downDelay follow link
      (entries.map fun e => (e.1.toNat, e.2)) = some new) :
    ownerWriteCue list cue up down upDelay downDelay follow link count (entryBytes entries) s =
      writeCheckedCue k new s := by
  rw [← ascending_channels] at sorted
  rw [← rawEntries_entryBytes] at read
  simp only [ownerWriteCue, hl, if_neg (mt entryBytes_count.mp (not_not_intro hn)), sorted, Bool.not_true,
    Bool.false_eq_true, if_false, read]

end

/-- The two totals after a cue of `n` entries is written over `old` stay within R5. -/
def HasRoom (lists : Table CueList 8) (old : Option Cue) (n : Nat) : Prop :=
  cueCount lists + (if old.isSome then 0 else 1) ≤ 1000 ∧ entryCount lists + n ≤ 32768 + freedEntries old

theorem writeCheckedCue_room {k : Fin 8} {new : Cue} {s : State}
    (h : HasRoom s.lists ((s.lists.get k).at new.number) new.entries.length) :
    writeCheckedCue k new s =
      ⟨s.setList k ((s.lists.get k).put new), .done,
        [if ((s.lists.get k).at new.number).isSome then 1 else 0] ++
          b2 ((s.lists.get k).put new).length ++
          b2 (cueCount (s.setList k ((s.lists.get k).put new)).lists) ++
          b2 (entryCount (s.setList k ((s.lists.get k).put new)).lists)⟩ := by
  obtain ⟨cues, entries⟩ := h
  have fits : cueCountAfter s.lists ((s.lists.get k).at new.number) ≤ Config.maxCues ∧
      entryCountAfter s.lists ((s.lists.get k).at new.number) new ≤ Config.maxEntries :=
    ⟨cues, Nat.sub_le_iff_le_add.mpr entries⟩
  have flag : b1 (if ((s.lists.get k).at new.number).isSome then 1 else 0) =
      [if ((s.lists.get k).at new.number).isSome then 1 else 0] := by split <;> rfl
  simp only [writeCheckedCue, if_pos fits, flag, State.setList, Table.get_set_self, totalsData,
    List.append_assoc]

theorem writeCheckedCue_full {k : Fin 8} {new : Cue} {s : State}
    (h : ¬HasRoom s.lists ((s.lists.get k).at new.number) new.entries.length) :
    writeCheckedCue k new s = refuse s .full := by
  refine if_neg fun fits => h ⟨fits.1, Nat.sub_le_iff_le_add.mp fits.2⟩

theorem writeCueWritesTheCueItCarries : Clause.WriteCueWritesTheCueItCarries := by
  intro d tag list cue up down upDelay downDelay follow link count entries k s r taken hl hn sorted number
    times hfollow hlink channels old cues total
  obtain ⟨up', down', upDelay', downDelay'⟩ := times
  obtain ⟨new, read⟩ := Option.isSome_iff_exists.mp (readCueRecord_isSome.mpr
    ⟨⟨number.1, number.2, up', down', upDelay', downDelay', hfollow, hlink⟩,
      (List.forall_mem_map (f := fun e : Half × Byte => (e.1.toNat, e.2))).mpr channels⟩)
  obtain ⟨-, shape, carried⟩ := readCueRecord_eq_some.mp read
  have at' : new.number = cue.toNat := by rw [shape]
  have length : new.entries.length = entries.length := by
    simpa using congrArg List.length carried
  have room : HasRoom (begun d tag r s).lists (((begun d tag r s).lists.get k).at new.number)
      new.entries.length := by
    rw [begun_lists, at', length]
    exact ⟨cues, total⟩
  refine ⟨new, at', by rw [shape], by rw [shape], by rw [shape], by rw [shape], by rw [shape], by rw [shape],
    carried, exec_done rfl taken (by simp [r]) ?_⟩
  simp only [perform, r, ownerWriteCue_checked hl hn sorted read]
  rw [writeCheckedCue_room room, begun_lists, at']

theorem writeCueChecksInOrder : Clause.WriteCueChecksInOrder := by
  intro d tag list cue up down upDelay downDelay follow link count entries k s r i taken hl refused sorted
    inRange old
  have owner : ∀ {x : Result}, ownerWriteCue list cue up down upDelay downDelay follow link count
      (entryBytes entries) (begun d tag r s) = refuse (begun d tag r s) x → exec i s = refused x :=
    exec_refused rfl taken (by simp [r])
  have ranges : (readCueRecord cue up down upDelay downDelay follow link
      (entries.map fun e => (e.1.toNat, e.2))).isSome = true ↔ inRange := by
    rw [readCueRecord_isSome, List.forall_mem_map]
    simp only [CueFieldsInRange, inRange, and_assoc]
  refine ⟨fun hn => owner (ownerWriteCue_wrongCount hl hn),
    fun hn hs => owner (ownerWriteCue_unsorted hl hn hs), fun hn hs hr => owner ?_,
    fun hn hs hr full => owner ?_⟩
  · rw [← ranges, Option.not_isSome_iff_eq_none] at hr
    exact ownerWriteCue_outOfRange hl hn hs hr
  · obtain ⟨new, read⟩ := Option.isSome_iff_exists.mp (ranges.mpr hr)
    obtain ⟨-, shape, carried⟩ := readCueRecord_eq_some.mp read
    have at' : new.number = cue.toNat := by rw [shape]
    have length : new.entries.length = entries.length := by
      simpa using congrArg List.length carried
    rw [ownerWriteCue_checked hl hn hs read]
    refine writeCheckedCue_full ?_
    rw [begun_lists, at', length]
    rintro ⟨cues, total⟩
    exact full.elim (fun k => absurd cues k.not_ge) (fun k => absurd total k.not_ge)

/-! ### O35: DELETE CUE and CLEAR LIST (R9, R10) -/

section
variable {list : Byte} {cue : Half} {k : Fin 8} {s : State}

theorem ownerDeleteCue_outOfRange (hl : number 8 list.toNat = some k)
    (out : cue.toNat = 0 ∨ 9999 < cue.toNat) : ownerDeleteCue list cue s = refuse s .outOfRange := by
  simp only [ownerDeleteCue, hl]
  exact if_pos out

theorem ownerDeleteCue_noSuch (hl : number 8 list.toNat = some k) (low : 1 ≤ cue.toNat)
    (high : cue.toNat ≤ 9999) (absent : ∀ c ∈ s.lists.get k, c.number ≠ cue.toNat) :
    ownerDeleteCue list cue s = refuse s .noSuch := by
  have inRange : ¬(cue.toNat = 0 ∨ Config.maxCueNumber < cue.toNat) := by
    simp only [Config.maxCueNumber]; omega
  simp only [ownerDeleteCue, hl, if_neg inRange, if_pos (CueList.at_isNone.mpr absent)]

theorem ownerDeleteCue_done (hl : number 8 list.toNat = some k) (low : 1 ≤ cue.toNat)
    (high : cue.toNat ≤ 9999) (present : ∃ c ∈ s.lists.get k, c.number = cue.toNat) :
    ownerDeleteCue list cue s =
      let u := s.setList k ((s.lists.get k).remove cue.toNat)
      ⟨u, .done, b2 ((s.lists.get k).remove cue.toNat).length ++ b2 (cueCount u.lists) ++
        b2 (entryCount u.lists)⟩ := by
  have inRange : ¬(cue.toNat = 0 ∨ Config.maxCueNumber < cue.toNat) := by
    simp only [Config.maxCueNumber]; omega
  obtain ⟨c, hc, e⟩ := present
  have found := mt CueList.at_isNone.mp fun absent => absent c hc e
  simp only [ownerDeleteCue, hl, if_neg inRange, if_neg found, State.setList, Table.get_set_self, totalsData,
    List.append_assoc]

end

theorem deleteAndClearRemoveCues : Clause.DeleteAndClearRemoveCues := by
  intro d tag list k s hl
  refine ⟨fun cue taken => ?_, fun taken => exec_done rfl taken (by simp) ?_⟩
  · refine ⟨fun out => exec_refused rfl taken (by simp) (ownerDeleteCue_outOfRange hl out), fun low high =>
      ⟨fun absent => exec_refused rfl taken (by simp) (ownerDeleteCue_noSuch hl low high ?_),
        fun present => exec_done rfl taken (by simp) ?_⟩⟩
    · rwa [begun_lists]
    · rw [perform, ownerDeleteCue_done hl low high (by rwa [begun_lists]), begun_lists]
  · simp only [perform, ownerClearList, hl, begun_lists, totalsData, List.append_assoc]

/-- Settles O35, check by check as R7 orders them. -/
theorem cueStoreRequestsCheckAndEdit : Obligations.CueStoreRequestsCheckAndEdit :=
  ⟨writeCueWritesTheCueItCarries, writeCueChecksInOrder, deleteAndClearRemoveCues⟩

end Sys2Proof.Machine
end

section
/-! PROOFS. O9, O10 and O52: the two resets. RESTART is answered and then carried out, power-on takes the image
or the factory values, and the state after reset meets every invariant (R159, R162, R172). -/

namespace Sys2Proof.Machine

/-! ### O9: RESTART answered (R159) -/

theorem takeCommand_restart {d : Desk} {tag : Byte} {s : State} (h : TakenAtOnce d .restart s) :
    takeCommand d (Request.restart.command tag) (s.setBuffer d (.waiting (Request.restart.command tag))) =
      answerRestart d (Request.restart.command tag) (begunAs d (Request.restart.command tag) s) := by
  have check : checkCommand d (Request.restart.command tag) (begunAs d (Request.restart.command tag) s) =
      .ok .restart := by
    simp [checkCommand, Request.command, parse_code_params h.fits, h.permitted, h.notStoring]
  simp only [takeCommand, beginCommand_arrival, check, dispatch, Request.isHeld, Bool.false_eq_true, and_false,
    if_false, if_true]

/-- The processor is still EXECUTING when a RESTART has been answered, so it takes no other command. -/
theorem nextCommand_answerRestart (d : Desk) (c : Command) (s : State) :
    nextCommand (answerRestart d c (begunAs d c s)) = none := by
  cases d <;> rfl

theorem restartIsAnsweredFirst : Clause.RestartIsAnsweredFirst := by
  intro d tag s h
  rw [exec_request (r := .restart) rfl, requestArrives, commandArrives]
  simp only [h.free.buffer]
  rw [arbitrate_one (nextCommand_arrival h.free)
    (by rw [takeCommand_restart h]; exact nextCommand_answerRestart ..), takeCommand_restart h]
  cases d <;> rfl

/-! ### O9: RESTART carried out (R159, R162) -/

theorem restartingDesk_eq {d : Desk} {s : State} (own : ∃ r ∈ (s.desk d).port.replies, r.kind = .restart)
    (other : ∀ r ∈ (s.desk d.other).port.replies, r.kind ≠ .restart) : restartingDesk s = some d := by
  have here : (s.desk d).port.replies.any (fun r => decide (r.kind = .restart)) = true := by
    simpa using own
  have there : (s.desk d.other).port.replies.any (fun r => decide (r.kind = .restart)) = false := by
    simpa using other
  unfold restartingDesk
  cases d with
  | A => exact if_pos here
  | B =>
    refine (if_neg ?_).trans (if_pos here)
    exact fun k => Bool.false_ne_true (there.symm.trans k)

/-- The restart does not read the reply list of the desk it was answered to. -/
theorem restartPart_setReplies (d : Desk) (rs : List Reply) (s : State) :
    restartPart d (s.setReplies d rs) = restartPart d s := by
  cases d <;> rfl

theorem replyDone_restart {d : Desk} {s : State} {r : Reply} {rest : List Reply}
    (h : (s.desk d).port.replies = r :: rest) (k : r.kind = .restart) : replyDone d s = restartPart d s := by
  simp only [replyDone, h, k, restartPart_setReplies]

/-- Only the frame in flight is left of a reply list, and a final reply in flight is no desk's own. -/
theorem repliesAtRestart_eq (rs : List Reply) :
    repliesAtRestart rs =
      (rs.take 1).map fun r => { r with kind := if r.kind = .final then .orphan else r.kind } := by
  cases rs with
  | nil => rfl
  | cons r rest =>
    simp only [repliesAtRestart, List.take_succ_cons, List.take_zero, List.map_cons, List.map_nil]
    split <;> rfl

theorem restartPart_desk (d x : Desk) (s : State) :
    (restartPart d s).desk x =
      (s.desk x).atRestart (if x = d then [] else repliesAtRestart (s.desk x).port.replies) := by
  cases x <;> rfl

theorem restartCarriedOutResetsEveryBlock : Clause.RestartCarriedOutResetsEveryBlock := by
  intro d s own other
  refine ⟨restartPart d s, ?_, fun r rest h k => ?_, fun x => ?_, ?_, ?_, fun p => ?_, rfl, rfl, ?_,
    fun l hl => ?_, rfl, fun k => ?_, rfl, rfl, fun c => ?_, fun c => ?_, fun w => ?_, rfl, rfl, rfl, rfl,
    rfl, rfl, rfl⟩
  · simp only [exec, execRestartCarriedOut, restartMoment, restartingDesk_eq own other]
  · simp only [exec, execReplySent, replyDone_restart h k]
  · rw [restartPart_desk]
    exact ⟨rfl, rfl, rfl⟩
  · rw [restartPart_desk, if_pos rfl]
    rfl
  · rw [restartPart_desk, if_neg (by cases d <;> decide), ← repliesAtRestart_eq]
    rfl
  · simp [restartPart, playbacksAtRestart]
  · exact Table.get_set_self ..
  · exact Table.get_set_ne _ hl.symm _
  · exact Table.get_fill ..
  · simp [restartPart, Triggers.atRestart]
  · simp [restartPart, Triggers.atRestart]
  · simp [restartPart, Triggers.atRestart, watchStateAfterReset]

/-- Settles O9: the reply first, then the reset of every block. -/
theorem restartIsAnsweredThenCarriedOut : Obligations.RestartIsAnsweredThenCarriedOut :=
  ⟨restartIsAnsweredFirst, restartCarriedOutResetsEveryBlock,
    fun _ _ _ => rfl, fun _ => rfl, fun _ _ _ => rfl, fun _ _ => rfl⟩

/-! ### O10: power-on (R172) -/

theorem handedOver_of_not_valid {m : ShowMemory} (h : m.isValid = false) :
    m.handedOver = .factory ∧ m.atPowerOn = .invalid := by
  cases m with
  | valid image => cases h
  | invalid => exact ⟨rfl, rfl⟩
  | storing image since => exact ⟨rfl, rfl⟩

/-- The trigger unit that the factory values give, whatever the contact inputs are. -/
theorem triggersFrom_factory (contacts : Table Contact 4) :
    triggersFrom .factory contacts =
      { State.reset.triggers with contacts := contacts.map fun x => ⟨.off, 20, x.input, x.input, none⟩ } := by
  simp only [triggersFrom, Image.factory, State.reset, Table.map_fill, Triggers.mk.injEq]
  exact ⟨Table.ext fun i => by simp [Contact.atPowerOn], trivial, rfl, trivial⟩

theorem powerOnWithoutImageGivesFactoryValues : Clause.PowerOnWithoutImageGivesFactoryValues := by
  intro s h
  obtain ⟨handed, memory⟩ := handedOver_of_not_valid h
  have playbacks : playbacksFrom .factory = State.reset.playbacks := Table.map_fill _ _
  have laws : Image.factory.laws.set 0 .linear = Law.factory := Table.set_set _ _ _ _
  have links : (Image.factory.links.map fun x => Transmitter.afterPowerOn x.enabled x.mask) =
      State.reset.links := Table.map_fill _ _
  simp only [exec, execPowerOn, powerOn, handed, memory, triggersFrom_factory, playbacks, laws, links]
  rfl

theorem powerOnLoadsTheImage : Clause.PowerOnLoadsTheImage := by
  intro s i h
  have stored : { s with memory := .valid i } = s := by rw [← h]
  refine ⟨powerOn { s with memory := .valid i }, by rw [stored]; rfl, rfl, rfl, rfl, fun p => ?_, rfl, rfl,
    Table.get_set_self .., fun l hl => Table.get_set_ne _ hl.symm _, rfl, fun k => Table.get_fill .., fun l => ?_,
    fun c => ?_, fun c => ?_, fun w => ?_, fun r => ?_, rfl, rfl, rfl, rfl, rfl, rfl⟩
  · simp [powerOn, ShowMemory.handedOver, playbacksFrom]
  · simp [powerOn, ShowMemory.handedOver]
  · simp [powerOn, ShowMemory.handedOver, triggersFrom, Contact.atPowerOn]
  · simp [powerOn, ShowMemory.handedOver, triggersFrom]
  · simp [powerOn, ShowMemory.handedOver, triggersFrom, watchStateAfterReset]
  · simp [powerOn, ShowMemory.handedOver, triggersFrom]

/-! ### O10: the state after reset -/

theorem factory_law_of_ne_zero {l : Fin 8} (h : l ≠ 0) : Law.factory.get l = Law.factoryCurve := by
  simp [Law.factory, h.symm]

theorem factory_law_zero : Law.factory.get 0 = .linear := by
  simp [Law.factory]

/-- The points of the factory curve are bytes, so no point is cut (R114). -/
theorem factoryCurve_points : ∃ points : Table Byte 17, Law.factoryCurve = .curve points ∧
    ∀ i, (points.get i).toNat = (i.val * 255 + 8) / 16 := by
  refine ⟨_, rfl, fun i => ?_⟩
  have := i.isLt
  simp only [Table.get_tab, BitVec.toNat_ofNat]
  omega

theorem resetHoldsTheFactoryValues : Clause.ResetHoldsTheFactoryValues := by
  have reports : State.reset.reports = ⟨[], 0, 0x3fff, false⟩ := by decide
  refine ⟨rfl, rfl, fun l => Table.get_fill .., fun p => Table.get_fill .., rfl, fun b k => ?_,
    factory_law_zero, fun l hl => ?_, rfl, fun k => Table.get_fill .., fun l => Table.get_fill ..,
    fun c => Table.get_fill .., fun c => Table.get_fill .., fun w => Table.get_fill ..,
    fun r => Table.get_fill .., rfl, reports, rfl, rfl, rfl, rfl⟩
  · simp [State.reset, CircuitRecord.default]
  · exact factory_law_of_ne_zero hl ▸ factoryCurve_points

/-- Settles O10: both kinds of power-on, and the state after reset item by item. -/
theorem powerOnGivesTheImageOrFactoryValues : Obligations.PowerOnGivesTheImageOrFactoryValues :=
  ⟨powerOnWithoutImageGivesFactoryValues, powerOnLoadsTheImage, resetHoldsTheFactoryValues⟩

/-! ### O52: the values after a reset are legal -/

theorem fill_moving (r : FadeRecord) : (Table.fill 768 r).any (·.moving) = r.moving := by
  cases h : r.moving
  · simp [Table.any_eq_false, h]
  · exact Table.any_iff.mpr ⟨0, by simp [h]⟩

/-- A playback after a reset is EMPTY or IDLE, with nothing in it that R18 would not have (R45). -/
theorem Playback.afterReset_legal (loaded : Option (Fin 8)) {releaseTime backTime : Nat}
    (hr : releaseTime ≤ 6000) (hb : backTime ≤ 6000) :
    (Playback.afterReset loaded releaseTime backTime).Legal := by
  have still : (Playback.afterReset loaded releaseTime backTime).moving = false := fill_moving .cleared
  cases loaded with
  | none =>
    exact ⟨⟨fun _ => rfl, fun _ => rfl⟩, fun _ => ⟨rfl, rfl, rfl⟩, nofun, nofun, nofun, nofun,
      ⟨Nat.le_of_ble_eq_true rfl, Nat.le_of_ble_eq_true rfl⟩, ⟨hr, hb⟩, Nat.zero_le _⟩
  | some l =>
    exact ⟨⟨nofun, nofun⟩, nofun, fun _ => ⟨still, rfl, rfl⟩, nofun, nofun, nofun,
      ⟨Nat.le_of_ble_eq_true rfl, Nat.le_of_ble_eq_true rfl⟩, ⟨hr, hb⟩, Nat.zero_le _⟩

theorem FadeRecord.cleared_legal : FadeRecord.cleared.Legal :=
  ⟨Nat.zero_le _, Nat.zero_le _, fun _ => rfl, .inr rfl⟩

theorem ScanRecord.afterReset_legal (bank : Fin 4) : (ScanRecord.afterReset bank).Legal := by
  constructor <;> intros <;> simp [ScanRecord.afterReset]

theorem Transmitter.afterPowerOn_legal (enabled : Bool) (mask : BitVec 4) :
    (Transmitter.afterPowerOn enabled mask).Legal :=
  ⟨fun _ => ⟨rfl, rfl, rfl⟩, nofun, .nil, nofun, fun _ _ => rfl⟩

theorem Transmitter.afterPowerOn_setsLegal (enabled : Bool) (mask : BitVec 4) :
    (Transmitter.afterPowerOn enabled mask).setsLegal := by
  rintro x (h | h | h) <;> cases h

theorem factory_law_legal (l : Fin 8) : (Law.factory.get l).legal := by
  by_cases h : l = 0
  · rw [h, factory_law_zero]
    trivial
  · rw [factory_law_of_ne_zero h]
    trivial

theorem DeskSettings.factory_legal (d : Desk) : (DeskSettings.factory d).legal := by
  cases d <;> simp [DeskSettings.factory, DeskSettings.legal]

theorem reset_desk (d : Desk) : State.reset.desk d = .factory d := by cases d <;> rfl

/-- There is no image in the show memory after reset (assumption 4). -/
theorem reset_image {p : Image → Prop} : ∀ i ∈ State.reset.memory.image, p i := by
  rw [show State.reset.memory.image = none from rfl]
  simp

theorem reset_levelsInv : LevelsInv State.reset where
  live d c := by simp [reset_desk, DeskUnit.factory, Monitor.afterReset]
  records p c := by
    simp only [State.reset, Table.get_fill, Playback.afterReset]
    exact FadeRecord.cleared_legal
  work := ScanRecord.afterReset_legal 0
  last := ScanRecord.afterReset_legal 0
  sets l := by
    simp only [State.reset, Table.get_fill]
    exact Transmitter.afterPowerOn_setsLegal true 15
  banks b k := by simp [State.reset, CircuitRecord.default]
  image := reset_image

theorem reset_settingsInv : SettingsInv State.reset where
  rightsA := rfl
  desks d := by
    rw [reset_desk]
    exact ⟨DeskSettings.factory_legal d, Nat.zero_le _⟩
  arrivals d := by
    rw [reset_desk]
    exact ⟨fun _ => rfl, fun _ => rfl⟩
  fades d h := by
    rw [reset_desk] at h
    cases h
  period := by decide
  inForce := by decide
  lawZero := factory_law_zero
  laws := factory_law_legal
  parks := ⟨.nil, Nat.zero_le _⟩
  queue := Nat.zero_le _
  image := reset_image

theorem reset_portsInv : PortsInv State.reset where
  desks d := by
    constructor <;> rw [reset_desk]
    · exact Nat.zero_le _
    · rfl
    · exact ⟨nofun, nofun⟩
    · exact ⟨nofun, nofun⟩
    · exact fun _ => rfl
  one := Nat.zero_le _
  held _ := by simp [State.reset, LevelProcessor.afterReset]

theorem reset_heldInv : HeldInv State.reset where
  waiting _ := rfl
  commands := Nat.zero_le _
  routes := .nil
  marks := by simp [State.reset, LevelProcessor.afterReset, heldRoutes]

theorem reset_triggersInv : TriggersInv State.reset where
  contacts c := by simp [State.reset]
  debounce c := by simp [State.reset]
  clocks c := by simp [State.reset]
  watches w := by simp [State.reset]
  outputs w := by simp [State.reset]
  image := reset_image

/-- Settles O52: every block's value after reset is legal, and nothing waits anywhere. -/
theorem resetMeetsEveryInvariant : Obligations.ResetMeetsEveryInvariant := by
  refine ⟨⟨.empty, reset_image⟩, ⟨fun p => ?_, reset_image⟩, reset_levelsInv, reset_settingsInv,
    reset_portsInv, reset_heldInv, fun l => ?_, reset_triggersInv⟩
  · simp only [State.reset, Table.get_fill]
    exact Playback.afterReset_legal none (by decide) (by decide)
  · simp only [State.reset, Table.get_fill]
    exact Transmitter.afterPowerOn_legal true 15

end Sys2Proof.Machine
end

section
/-! PROOFS. O31: GOTO and BACK set a move on every channel and then raise their events (R12, R30, R31, R178). -/

namespace Sys2Proof.Machine

/-! ### A request to a playback (R24) -/

theorem playbackRequest_refused {n : Byte} {k : Fin 6} {s : State} {take : Fin 6 → State × Result} {x : Result}
    (hk : number 6 n.toNat = some k) (ht : take k = (s, x)) (hx : x ≠ .done) :
    playbackRequest n s take = refuse s x := by
  simp only [playbackRequest, hk, ht, if_neg hx, refuse]

theorem playbackRequest_done {n : Byte} {k : Fin 6} {s u : State} {take : Fin 6 → State × Result}
    (hk : number 6 n.toNat = some k) (ht : take k = (u, .done)) :
    playbackRequest n s take = ⟨u, .done, playbackData (u.playbacks.get k)⟩ := by
  simp only [playbackRequest, hk, ht, if_true]

/-! ### The moves of a GOTO and a BACK -/

@[simp] theorem moveAll_get (clock : Nat) (target : Fin 768 → Nat) (up down : Pair)
    (rs : Table FadeRecord 768) (ch : Fin 768) :
    (moveAll clock target up down rs).get ch = (rs.get ch).setMove clock (target ch) up down := by
  simp [moveAll]

/-- A legal playback with a list, resumed first, that goes to a cue: its state and clock come from R18 and R20,
and its events from R26 and R35. -/
theorem Playback.resumed_went {pb : Playback} (h : pb.Legal) (hl : pb.loaded.isSome = true) (k : Fin 6)
    (records : Table FadeRecord 768) (current follow : Option Nat) :
    pb.resumed.went k records current follow =
      ⟨pb.settledWith records current follow, goEvents k (orZero current) records, true⟩ := by
  rw [(Playback.resumed_of_legal h hl).2]
  simp only [Playback.went]
  have settled := Playback.settle_eq_settledWith (pb := { pb with state := pb.resumed.state }) hl records
    current follow
  simp only [settled]
  rfl

/-- The delay and time of a move: those of the cue, or the override without a delay (R30). -/
def overridePair (override : Option Nat) (delay time : Nat) : Pair :=
  match override with
  | some t => ⟨0, t⟩
  | none => ⟨delay, time⟩

/-- The records of a GOTO: every channel moves to the tracked level of the cue (R30). -/
def gotoMoves (pb : Playback) (l : CueList) (c : Cue) (override : Option Nat) : Table FadeRecord 768 :=
  moveAll pb.clock (fun ch => expand (l.tracked c.number ch)) (overridePair override c.upDelay c.upTime)
    (overridePair override c.downDelay c.downTime) pb.records

theorem Playback.list_of_loaded {pb : Playback} {l : Fin 8} (hl : pb.loaded = some l)
    (lists : Table CueList 8) : pb.list lists = lists.get l := by
  simp only [Playback.list, hl]

section
variable {pb : Playback} {l : Fin 8} {lists : Table CueList 8}

theorem Playback.resumed_list (h : pb.Legal) (hl : pb.loaded = some l) :
    pb.resumed.list lists = lists.get l := by
  rw [(Playback.resumed_of_legal h (by simp [hl])).2]
  exact Playback.list_of_loaded hl lists

theorem Playback.resumed_takeGoto (h : pb.Legal) (hl : pb.loaded = some l) (k : Fin 6) {c : Cue}
    (limit : ∀ f ∈ c.follow, pb.clock + f * 100000 < 2 ^ 64) (override : Option Nat) :
    pb.resumed.takeGoto lists k c override =
      ⟨pb.settledWith (gotoMoves pb (lists.get l) c override) (some c.number)
          (c.follow.map fun f => pb.clock + f * 100000),
        goEvents k c.number (gotoMoves pb (lists.get l) c override), true⟩ := by
  have isSome : pb.loaded.isSome = true := by simp [hl]
  have clock : pb.resumed.clock = pb.clock := by rw [(Playback.resumed_of_legal h isSome).2]
  have records : pb.resumed.records = pb.records := by rw [(Playback.resumed_of_legal h isSome).2]
  rw [← followDue_of_lt limit]
  simp only [Playback.takeGoto, Playback.resumed_list h hl, clock, records,
    Playback.resumed_went h isSome]
  cases override <;> rfl

theorem Playback.resumed_takeBack_below (h : pb.Legal) (hl : pb.loaded = some l) (k : Fin 6) {n : Nat}
    {c : Cue} (below : (lists.get l).below n = some c)
    (limit : ∀ f ∈ c.follow, pb.clock + f * 100000 < 2 ^ 64) :
    pb.resumed.takeBack lists k n =
      ⟨pb.settledWith (gotoMoves pb (lists.get l) c (some pb.backTime)) (some c.number)
          (c.follow.map fun f => pb.clock + f * 100000),
        goEvents k c.number (gotoMoves pb (lists.get l) c (some pb.backTime)), true⟩ := by
  have back : pb.resumed.backTime = pb.backTime := by
    rw [(Playback.resumed_of_legal h (by simp [hl])).2]
  simp only [Playback.takeBack, Playback.resumed_list h hl, below, back,
    Playback.resumed_takeGoto h hl k limit]

/-- With no cue below, a BACK moves every channel to 0 and leaves no current cue (R31). -/
theorem Playback.resumed_takeBack_none (h : pb.Legal) (hl : pb.loaded = some l) (k : Fin 6) {n : Nat}
    (below : (lists.get l).below n = none) :
    pb.resumed.takeBack lists k n =
      let records := moveAll pb.clock (fun _ => 0) ⟨0, pb.backTime⟩ ⟨0, pb.backTime⟩ pb.records
      ⟨pb.settledWith records none none, goEvents k 0 records, true⟩ := by
  have isSome : pb.loaded.isSome = true := by simp [hl]
  have same : pb.resumed.clock = pb.clock ∧ pb.resumed.records = pb.records ∧
      pb.resumed.backTime = pb.backTime := by
    rw [(Playback.resumed_of_legal h isSome).2]
    exact ⟨rfl, rfl, rfl⟩
  obtain ⟨clock, records, back⟩ := same
  simp only [Playback.takeBack, Playback.resumed_list h hl, below, clock, records, back,
    Playback.resumed_went h isSome, orZero]

end

/-! ### GOTO (R30) -/

section
variable {k : Fin 6} {cue override : Half} {s : State}

/-- The checks of GOTO on its fields: the cue number and the override (R30, R178). -/
def GotoInRange (cue override : Half) : Prop :=
  1 ≤ cue.toNat ∧ cue.toNat ≤ 9999 ∧ (override.toNat = 65535 ∨ override.toNat ≤ 6000)

/-- The override of a GOTO, 65,535 for absent (R178). -/
def overrideOf (override : Half) : Option Nat :=
  if override.toNat = 65535 then none else some override.toNat

theorem overridePair_overrideOf (override : Half) (delay time : Nat) :
    overridePair (overrideOf override) delay time =
      if override.toNat = 65535 then ⟨delay, time⟩ else ⟨0, override.toNat⟩ := by
  unfold overrideOf
  split <;> rfl

theorem gotoInRange_iff :
    GotoInRange cue override ↔ ¬(cue.toNat = 0 ∨ Config.maxCueNumber < cue.toNat ∨
      Config.maxTenths < orZero (overrideOf override)) := by
  unfold GotoInRange overrideOf
  simp only [Config.maxCueNumber, Config.maxTenths]
  split
  · simp only [orZero]; omega
  · simp only [orZero]; omega

theorem gotoPlayback_empty (h : (s.playbacks.get k).state = .empty) :
    gotoPlayback raiseEvent k cue override s = (s, .wrongState) := by
  simp only [gotoPlayback, if_pos h]

theorem gotoPlayback_outOfRange (h : (s.playbacks.get k).state ≠ .empty)
    (out : ¬GotoInRange cue override) :
    gotoPlayback raiseEvent k cue override s = (s, .outOfRange) := by
  rw [gotoInRange_iff, not_not] at out
  simp only [gotoPlayback, if_neg h]
  exact if_pos out

theorem gotoPlayback_noSuch (h : (s.playbacks.get k).state ≠ .empty) (inRange : GotoInRange cue override)
    (absent : ((s.playbacks.get k).list s.lists).at cue.toNat = none) :
    gotoPlayback raiseEvent k cue override s = (s, .noSuch) := by
  have := gotoInRange_iff.mp inRange
  unfold overrideOf at this
  simp only [gotoPlayback, if_neg h, if_neg this, absent]

theorem gotoPlayback_taken (h : (s.playbacks.get k).state ≠ .empty) (inRange : GotoInRange cue override)
    {c : Cue} (found : ((s.playbacks.get k).list s.lists).at cue.toNat = some c) :
    gotoPlayback raiseEvent k cue override s =
      (applyMoved raiseEvent k
        ((s.playbacks.get k).resumed.takeGoto s.lists k c (overrideOf override)) s, .done) := by
  have := gotoInRange_iff.mp inRange
  unfold overrideOf at this
  simp only [gotoPlayback, if_neg h, if_neg this, found, overrideOf]

end

theorem Playback.Legal.not_empty {pb : Playback} (h : pb.Legal) {l : Fin 8} (hl : pb.loaded = some l) :
    pb.state ≠ .empty := fun e => by simp [h.empty.mp e] at hl

theorem gotoMovesEveryChannel : Clause.GotoMovesEveryChannel := by
  intro d tag p cue override k s r taken hk pb s0 i inRange legal
  have same : s0.playbacks.get k = pb := by simp only [s0, begun_playbacks, pb]
  have refused : ∀ {x : Result}, gotoPlayback raiseEvent k cue override s0 = (s0, x) → x ≠ .done →
      exec i s = .next (answered d tag r x [] s0) := fun ht hx =>
    exec_refused rfl taken (by simp [r]) (playbackRequest_refused hk ht hx)
  refine ⟨fun e => refused (gotoPlayback_empty (by rwa [same])) (by decide), fun l hl => ?_⟩
  have notEmpty : (s0.playbacks.get k).state ≠ .empty := by rw [same]; exact legal.not_empty hl
  have list : (s0.playbacks.get k).list s0.lists = s.lists.get l := by
    rw [same, Playback.list_of_loaded hl, begun_lists]
  refine ⟨fun out => refused (gotoPlayback_outOfRange notEmpty out) (by decide),
    fun ranges absent => refused (gotoPlayback_noSuch notEmpty ranges ?_) (by decide),
    fun c ranges found limit => ⟨gotoMoves pb (s.lists.get l) c (overrideOf override), fun ch => ?_, ?_⟩⟩
  · rw [list]
    exact CueList.at_eq_none.mpr absent
  · simp only [gotoMoves, moveAll_get, overridePair_overrideOf, CueList.number_of_at found]
  · refine exec_done rfl taken (by simp [r]) (playbackRequest_done hk ?_)
    rw [gotoPlayback_taken notEmpty ranges (by rw [list]; exact found), same, begun_lists,
      Playback.resumed_takeGoto legal hl k limit, CueList.number_of_at found]
    rfl

/-! ### BACK (R31) -/

theorem backPlayback_empty {k : Fin 6} {s : State} (h : (s.playbacks.get k).state = .empty) :
    backPlayback raiseEvent k s = (s, .wrongState) := by
  simp only [backPlayback, if_pos h]

theorem backPlayback_noCurrent {k : Fin 6} {s : State} (h : (s.playbacks.get k).state ≠ .empty)
    (current : (s.playbacks.get k).current = none) : backPlayback raiseEvent k s = (s, .endOfList) := by
  simp only [backPlayback, if_neg h, current]

theorem backPlayback_taken {k : Fin 6} {s : State} (h : (s.playbacks.get k).state ≠ .empty) {n : Nat}
    (current : (s.playbacks.get k).current = some n) :
    backPlayback raiseEvent k s =
      (applyMoved raiseEvent k ((s.playbacks.get k).resumed.takeBack s.lists k n) s, .done) := by
  simp only [backPlayback, if_neg h, current]

theorem backTakesTheCueBelow : Clause.BackTakesTheCueBelow := by
  intro d tag p k s taken hk pb s0 i move moved legal
  have same : s0.playbacks.get k = pb := by simp only [s0, begun_playbacks, pb]
  have refused : ∀ {x : Result}, backPlayback raiseEvent k s0 = (s0, x) → x ≠ .done →
      exec i s = .next (answered d tag (.back p) x [] s0) := fun ht hx =>
    exec_refused rfl taken (by simp) (playbackRequest_refused hk ht hx)
  refine ⟨fun e => refused (backPlayback_empty (by rwa [same])) (by decide),
    fun e current => refused (backPlayback_noCurrent (by rwa [same]) (by rwa [same])) (by decide),
    fun l n hl current => ?_⟩
  have ran : ∀ {after : Playback} {cue : Nat},
      pb.resumed.takeBack s.lists k n = ⟨after, goEvents k cue after.records, true⟩ → moved after cue := by
    intro after cue taking
    refine exec_done rfl taken (by simp) (playbackRequest_done hk ?_)
    rw [backPlayback_taken (by rw [same]; exact legal.not_empty hl) (by rw [same]; exact current), same,
      begun_lists, taking]
    rfl
  refine ⟨fun c below limit => ⟨gotoMoves pb (s.lists.get l) c (some pb.backTime), fun ch => ?_,
      ran (Playback.resumed_takeBack_below legal hl k below limit)⟩,
    fun below => ⟨_, fun ch => moveAll_get .., ran (Playback.resumed_takeBack_none legal hl k below)⟩⟩
  simp only [gotoMoves, moveAll_get, overridePair]

/-- Settles O31: the refusals in order, then the moves and the events. -/
theorem gotoAndBackMoveEveryChannel : Obligations.GotoAndBackMoveEveryChannel :=
  ⟨gotoMovesEveryChannel, backTakesTheCueBelow⟩

end Sys2Proof.Machine
end

section
/-! PROOFS. O51: the reads that answer from their owners, and the bytes of their items (R15, R64, R85, R96, R113,
R131, R147, R160, R161, R169, R178, R180). -/

namespace Sys2Proof.Machine

/-! ### Numbers in bytes (R176, R178) -/

/-- The byte at place `k` of a number cut to `w` bits. -/
theorem extract_byte {w k : Nat} (n : Nat) (h : k + 8 ≤ w) :
    (BitVec.ofNat w n).extractLsb' k 8 = BitVec.ofNat 8 (n / 2 ^ k) := by
  refine BitVec.eq_of_toNat_eq ?_
  have split : w = k + (w - k) := by omega
  have place : 8 ≤ w - k := by omega
  rw [BitVec.extractLsb'_toNat, BitVec.toNat_ofNat, BitVec.toNat_ofNat, Nat.shiftRight_eq_div_pow, split,
    pow_add, Nat.mod_mul_right_div_self, Nat.mod_mod_of_dvd _ (pow_dvd_pow 2 (by omega))]

theorem b2_eq (n : Nat) : b2 n = b1 (n / 256) ++ b1 n := by
  simp only [b2, b1, halfBytes, extract_byte n (show 8 + 8 ≤ 16 by omega),
    extract_byte n (show 0 + 8 ≤ 16 by omega), pow_zero, Nat.div_one]
  rfl

theorem b4_eq (n : Nat) : b4 n = b2 (n / 65536) ++ b2 n := by
  simp only [b2_eq, b1, b4, quadBytes, extract_byte n (show 24 + 8 ≤ 32 by omega),
    extract_byte n (show 16 + 8 ≤ 32 by omega), extract_byte n (show 8 + 8 ≤ 32 by omega),
    extract_byte n (show 0 + 8 ≤ 32 by omega), pow_zero, Nat.div_one, Nat.div_div_eq_div_mul]
  rfl

theorem quadBytes_eq (x : Quad) : quadBytes x = b4 x.toNat := by
  rw [b4, BitVec.ofNat_toNat, BitVec.setWidth_eq]

theorem halfBytes_eq (x : Half) : halfBytes x = b2 x.toNat := by
  rw [b2, BitVec.ofNat_toNat, BitVec.setWidth_eq]

/-! ### Codes read back (R178, R180) -/

theorem Edge.ofCode_eq_some {n : Nat} {x : Edge} : Edge.ofCode n = some x ↔ n = x.code := by
  refine ⟨fun h => ?_, fun h => by subst h; cases x <;> rfl⟩
  unfold Edge.ofCode at h
  split at h <;> cases h <;> rfl

theorem ClockMode.ofCode_eq_some {n : Nat} {x : ClockMode} : ClockMode.ofCode n = some x ↔ n = x.code := by
  refine ⟨fun h => ?_, fun h => by subst h; cases x <;> rfl⟩
  unfold ClockMode.ofCode at h
  split at h <;> cases h <;> rfl

theorem Condition.ofCode_eq_some {n : Nat} {x : Condition} : Condition.ofCode n = some x ↔ n = x.code := by
  refine ⟨fun h => ?_, fun h => by subst h; cases x <;> rfl⟩
  unfold Condition.ofCode at h
  split at h <;> cases h <;> rfl

theorem LossAction.ofCode_eq_some {n : Nat} {x : LossAction} :
    LossAction.ofCode n = some x ↔ n = x.code := by
  refine ⟨fun h => ?_, fun h => by subst h; cases x <;> rfl⟩
  unfold LossAction.ofCode at h
  split at h <;> cases h <;> rfl

theorem Merge.ofCode_eq_some {n : Nat} {x : Merge} : Merge.ofCode n = some x ↔ n = x.code := by
  refine ⟨fun h => ?_, fun h => by subst h; cases x <;> rfl⟩
  unfold Merge.ofCode at h
  split at h <;> cases h <;> rfl

theorem Rights.ofCode_eq_some {n : Nat} {x : Rights} : Rights.ofCode n = some x ↔ n = x.code := by
  refine ⟨fun h => ?_, fun h => by subst h; cases x <;> rfl⟩
  unfold Rights.ofCode at h
  split at h <;> cases h <;> rfl

theorem codesAreReadBack : Clause.CodesAreReadBack :=
  fun _ => ⟨fun _ => Edge.ofCode_eq_some, fun _ => ClockMode.ofCode_eq_some, fun _ => Condition.ofCode_eq_some,
    fun _ => LossAction.ofCode_eq_some, fun _ => Merge.ofCode_eq_some, fun _ => Rights.ofCode_eq_some⟩

theorem namedValuesHaveTheirCodes : Clause.NamedValuesHaveTheirCodes :=
  ⟨rfl, rfl, rfl, rfl, rfl, fun _ => rfl, fun _ => rfl, rfl, rfl, rfl, rfl, rfl, rfl, fun _ _ => rfl⟩

/-! ### The items of a status (R85, R131, R147, R160, R169) -/

/-- The overrun flag in bit 15 stands above the fourteen event flags (R178). -/
theorem flagsField_toNat (r : Reports) :
    (flagsField r).toNat = r.flags.toNat + if r.overrun then 32768 else 0 := by
  have low : r.flags.toNat < 2 ^ 15 := r.flags.isLt.trans (by decide)
  have wide : (r.flags.zeroExtend 16).toNat = r.flags.toNat :=
    BitVec.toNat_setWidth_of_le (by decide)
  unfold flagsField
  rw [BitVec.toNat_or, wide]
  cases r.overrun
  · simp
  · rw [if_pos rfl, if_pos rfl, BitVec.toNat_twoPow, Nat.or_comm, show 2 ^ 15 % 2 ^ 16 = 2 ^ 15 * 1 from rfl,
      ← Nat.two_pow_add_eq_or_of_lt low 1]
    omega

theorem levelStatus_eq (x : LevelProcessor) :
    levelStatus x = b1 x.period ++ [x.grandMaster] ++ bYes x.blackout ++ b1 (numbered x.activeBank) ++
      (match x.staged with
        | none => [0, 0, 0, 0, 0, 0]
        | some y => [1] ++ b1 (numbered y.target) ++ b1 y.method.code ++
          (match y.method with
            | .atGo p => 1 :: b1 (numbered p)
            | _ => [0, 0]) ++ bYes y.due) ++
      bYes x.dark ++ b4 x.last.start.toNat := by
  rw [levelStatus, quadBytes_eq]
  congr 3
  cases x.staged with
  | none => rfl
  | some y => cases h : y.method <;> simp [bOpt, stagedBytes, Method.playback, h, b1]

theorem linkBytes_eq (t : Transmitter) :
    linkBytes t = bYes t.enabled ++ b1 t.mask.toNat ++
      (match t.state with
        | .idle => [0, 0]
        | .sending a => 1 :: b1 a.val) ++
      b1 ((t.cycle.map fun a => 2 ^ a.val).sum) ++ bYes t.queued.isSome ++ bYes t.last.isSome ++
      bOpt b4 0 t.refresh := by
  have mask : [maskByte t.mask] = b1 t.mask.toNat := by
    rw [maskByte, b1, BitVec.ofNat_toNat]
  rw [linkBytes, mask]
  cases t.state <;> rfl

theorem memoryStatus_eq (s : State) :
    memoryStatus s = b1 s.reports.queue.length ++
      b2 (s.reports.flags.toNat + if s.reports.overrun then 32768 else 0) ++ b2 s.reports.mask.toNat ++
      (match s.memory with
        | .valid _ => [0, 0, 0, 0, 0, 0]
        | .invalid => [1, 0, 0, 0, 0, 0]
        | .storing _ since => [2, 1] ++ b4 (s.showClock - since).toNat) := by
  have mask : (s.reports.mask.zeroExtend 16).toNat = s.reports.mask.toNat :=
    BitVec.toNat_setWidth_of_le (by decide)
  rw [memoryStatus, halfBytes_eq, halfBytes_eq, flagsField_toNat, mask, storeElapsed, List.append_assoc]
  congr 1
  cases s.memory with
  | valid image => rfl
  | invalid => rfl
  | storing image since =>
    simp only [bOpt, quadBytes_eq]
    rfl

theorem routeBytes_eq (x : Route) :
    routeBytes x = bYes x.enabled ++ b1 x.source.kind.code ++
      (match x.source with
        | .playbackGo p | .playbackDone p => 1 :: b1 (numbered p)
        | .deskLost d | .deskBack d => [1, match d with
          | .A => 1
          | .B => 2]
        | .swapDone => [0, 0]
        | .contact c => 1 :: b1 (numbered c)
        | .clock c => 1 :: b1 (numbered c)
        | .watch w => 1 :: b1 (numbered w)) ++
      b1 x.task.code ++
      (match x.task with
        | .go p | .pause p | .resume p | .release p => 1 :: b1 (numbered p)
        | .start c | .continue c | .stop c | .stopAtMatch c => 1 :: b1 (numbered c)
        | .blackoutOn | .blackoutOff | .swapNow => [0, 0]) ++ bYes x.holdoff := by
  rw [routeBytes]
  congr 2
  · congr 2
    cases x.source with
    | deskLost d | deskBack d => cases d <;> rfl
    | _ => rfl
  · cases x.task <;> rfl

theorem statusItemsAreLaidOut : Clause.StatusItemsAreLaidOut :=
  ⟨fun n => ⟨rfl, b2_eq n, b4_eq n, rfl⟩, quadBytes_eq, halfBytes_eq, rfl, rfl, fun _ _ => rfl, rfl, rfl, rfl,
    fun _ => rfl, fun _ => rfl, levelStatus_eq, linkBytes_eq, memoryStatus_eq, fun _ => rfl, fun _ => rfl,
    fun _ => rfl, routeBytes_eq⟩

/-! ### Records (R19, R62, R89, R178 to R180) -/

theorem recordFields_eq (r : CircuitRecord) :
    recordFields r = (match r.source with
        | some c => b2 (numbered c)
        | none => [0, 0]) ++ b1 r.proportion ++ b1 r.law.val ++ [r.preheat, r.topSet] := by
  rw [recordFields]
  congr 3
  unfold sourceNumber
  cases r.source <;> rfl

theorem cueBytes_eq (c : Cue) :
    cueBytes c = b2 c.number ++ b2 c.upTime ++ b2 c.downTime ++ b2 c.upDelay ++ b2 c.downDelay ++
      (match c.follow with
        | some f => b2 f
        | none => [255, 255]) ++
      (match c.link with
        | some k => b2 k
        | none => [0, 0]) ++
      b2 c.entries.length ++ c.entries.flatMap fun e => b2 (numbered e.channel) ++ [e.level] := by
  rw [cueBytes]
  congr 3
  · congr 1
    cases c.follow <;> rfl
  · cases c.link <;> rfl

theorem stagedBytes_eq (x : Staged) :
    stagedBytes x = swapBytes x ++ (match x.method with
      | .atGo p => 1 :: b1 (numbered p)
      | _ => [0, 0]) ++ bYes x.due := by
  rw [stagedBytes]
  congr 2
  cases x.method <;> rfl

theorem recordsAreLaidOut : Clause.RecordsAreLaidOut :=
  ⟨fun _ => rfl, recordFields_eq, cueBytes_eq, fun _ => rfl, fun x => ⟨rfl, stagedBytes_eq x⟩, fun _ => rfl,
    fun k => by cases k <;> rfl⟩

/-! ### READ DESK and READ CUE (R15, R64) -/

theorem readDesk_answer {d y : Desk} {tag target clear : Byte} {s : State}
    (hy : deskOfCode target.toNat = some y) :
    perform (.readDesk target clear) (begun d tag (.readDesk target clear) s) =
      let s0 := begun d tag (.readDesk target clear) s
      ⟨if clear = 0 then s0 else s0.setReceiver y { (s.desk y).receiver with errors := 0 }, .done,
        deskBytes (s.desk y) s.showClock⟩ := by
  simp only [perform, ownerReadDesk, hy, deskBytes, begun_desk_monitor, begun_desk_receiver, begun_showClock]

section
variable {list : Byte} {cue : Half} {k : Fin 8} {s : State}

theorem ownerReadCue_outOfRange (hk : number 8 list.toNat = some k) (high : 9999 < cue.toNat) :
    ownerReadCue list cue s = refuse s .outOfRange := by
  have out : Config.maxCueNumber < cue.toNat := high
  simp only [ownerReadCue, hk, if_pos out]

theorem ownerReadCue_zero (hk : number 8 list.toNat = some k) :
    ownerReadCue list 0 s =
      ⟨s, .done, b2 (s.lists.get k).length ++ b2 (s.lists.get k).entryCount ++ b2 (cueCount s.lists) ++
        b2 (entryCount s.lists) ++ cueNumberBytes (s.lists.get k).first⟩ := by
  have inRange : ¬Config.maxCueNumber < 0 := Nat.not_lt_zero _
  have zero : (0 : Half).toNat = 0 := rfl
  simp only [ownerReadCue, hk, zero, if_neg inRange, if_true, totalsData, List.append_assoc]

theorem ownerReadCue_noSuch (hk : number 8 list.toNat = some k) (low : 1 ≤ cue.toNat)
    (high : cue.toNat ≤ 9999) (absent : (s.lists.get k).at cue.toNat = none) :
    ownerReadCue list cue s = refuse s .noSuch := by
  have inRange : ¬Config.maxCueNumber < cue.toNat := Nat.not_lt.mpr high
  have notZero : cue.toNat ≠ 0 := Nat.ne_of_gt low
  simp only [ownerReadCue, hk, if_neg inRange, if_neg notZero, absent]

theorem ownerReadCue_found (hk : number 8 list.toNat = some k) (low : 1 ≤ cue.toNat)
    (high : cue.toNat ≤ 9999) {c : Cue} (found : (s.lists.get k).at cue.toNat = some c) :
    ownerReadCue list cue s =
      ⟨s, .done, cueBytes c ++ cueNumberBytes ((s.lists.get k).above cue.toNat)⟩ := by
  have inRange : ¬Config.maxCueNumber < cue.toNat := Nat.not_lt.mpr high
  have notZero : cue.toNat ≠ 0 := Nat.ne_of_gt low
  simp only [ownerReadCue, hk, if_neg inRange, if_neg notZero, found, CueList.number_of_at found]

end

theorem readDeskAndReadCueAnswer : Clause.ReadDeskAndReadCueAnswer := by
  intro d tag s
  refine ⟨fun target clear y taken hy => exec_done rfl taken (by simp) (readDesk_answer hy),
    fun list cue k taken hk => ⟨fun high => ?_, ?_, fun low high absent => ?_, fun c low high found => ?_⟩⟩
  · exact exec_refused rfl taken (by simp) (ownerReadCue_outOfRange hk high)
  · rintro rfl
    refine exec_done rfl taken (by simp) ?_
    rw [perform, ownerReadCue_zero hk, begun_lists]
    rfl
  · exact exec_refused rfl taken (by simp) (ownerReadCue_noSuch hk low high (by rwa [begun_lists]))
  · refine exec_done rfl taken (by simp) ?_
    rw [perform, ownerReadCue_found hk low high (by rw [begun_lists]; exact found), begun_lists]
    rfl

/-! ### READ BANK ENTRY, READ LAW, READ STATUS and READ TRIGGERS (R96, R113, R147, R160) -/

theorem bYes_eq_ite {x : Bool} {p : Prop} [Decidable p] (h : x = true ↔ p) :
    bYes x = if p then [1] else [0] := by
  unfold bYes
  split <;> simp_all

theorem isHot_iff {s : State} {b : Fin 4} : s.isHot b = true ↔ b = s.level.activeBank := decide_eq_true_iff

theorem isStagedTarget_iff {s : State} {b : Fin 4} :
    s.isStagedTarget b = true ↔ ∃ x ∈ s.level.staged, x.target = b := by
  unfold State.isStagedTarget
  cases s.level.staged <;> simp

section
variable {bank : Byte} {circuit : Half} {b : Fin 4} {s : State}

theorem ownerReadBankEntry_outOfRange (hb : number 4 bank.toNat = some b) (high : 1536 < circuit.toNat) :
    ownerReadBankEntry bank circuit s = refuse s .outOfRange := by
  have notZero : circuit.toNat ≠ 0 := by omega
  simp only [ownerReadBankEntry, hb, if_neg notZero, number_eq_none.mpr (.inr high)]

theorem ownerReadBankEntry_zero (hb : number 4 bank.toNat = some b) :
    ownerReadBankEntry bank 0 s =
      ⟨s, .done, bYes (s.isHot b) ++ bYes (s.isStagedTarget b) ++
        b2 ((s.patch.banks.get b).count fun r => r.source.isSome) ++
        b2 ((s.patch.banks.get b).count fun r => decide (r ≠ CircuitRecord.default))⟩ := by
  have zero : (0 : Half).toNat = 0 := rfl
  simp only [ownerReadBankEntry, hb, zero, if_true]

theorem ownerReadBankEntry_circuit (hb : number 4 bank.toNat = some b) {k : Fin 1536}
    (hk : circuit.toNat = numbered k) :
    ownerReadBankEntry bank circuit s =
      ⟨s, .done, recordFields ((s.patch.banks.get b).get k) ++ bYes (s.isHot b)⟩ := by
  have notZero : numbered k ≠ 0 := Nat.ne_of_gt (numbered_pos k)
  simp only [ownerReadBankEntry, hb, hk, if_neg notZero, number_numbered]

theorem ownerReadLaw_eq {law : Byte} {l : Fin 8} (hl : law.toNat = l.val) :
    ownerReadLaw law s =
      ⟨s, .done, b1 (s.patch.laws.get l).code ++ lawContents (s.patch.laws.get l) ++
        b2 (circuitsOnLaw s l)⟩ := by
  have found : index 8 law.toNat = some l := by
    rw [hl, index, dif_pos l.isLt]
  simp only [ownerReadLaw, found]

end

theorem memoryStatus_begun (d : Desk) (tag : Byte) (r : Request) (s : State) :
    memoryStatus (begun d tag r s) = memoryStatus s := by
  simp only [memoryStatus, storeElapsed, begun_reports, begun_memory, begun_showClock]

theorem readsOfTheTablesAnswer : Clause.ReadsOfTheTablesAnswer := by
  intro d tag s
  refine ⟨fun bank circuit b taken hb => ⟨fun high => ?_, ?_, fun k hk => ?_⟩, fun law l taken hl => ?_,
    fun taken => exec_done rfl taken (by simp) ?_, fun taken => exec_done rfl taken (by simp) ?_⟩
  · exact exec_refused rfl taken (by simp) (ownerReadBankEntry_outOfRange hb high)
  · rintro rfl
    refine exec_done rfl taken (by simp) ?_
    rw [perform, ownerReadBankEntry_zero hb, bYes_eq_ite isHot_iff, bYes_eq_ite isStagedTarget_iff, begun_patch]
    simp only [begun_level]
  · refine exec_done rfl taken (by simp) ?_
    rw [perform, ownerReadBankEntry_circuit hb hk, bYes_eq_ite isHot_iff, begun_patch, begun_level]
  · refine exec_done rfl taken (by simp) ?_
    rw [perform, ownerReadLaw_eq hl, circuitsOnLaw, begun_patch, begun_level]
    congr 2
    cases s.patch.laws.get l <;> rfl
  · simp only [perform, ownerReadStatus, begun_showClock, begun_playbacks, begun_lists, begun_patch, begun_level,
      begun_links, begun_processor, memoryStatus_begun, totalsData, b1, List.append_assoc]
  · simp only [perform, ownerReadTriggers, begun_triggers]

/-- Settles O51: what the six reads answer, and the bytes of what they carry. -/
theorem readsOfOwnersAnswer : Obligations.ReadsOfOwnersAnswer :=
  ⟨readDeskAndReadCueAnswer, readsOfTheTablesAnswer, statusItemsAreLaidOut, namedValuesHaveTheirCodes,
    codesAreReadBack, recordsAreLaidOut⟩

end Sys2Proof.Machine
end

section
/-! PROOFS. A condition on a playback that each operation on a playback keeps is kept, for all six of them, by
every event, task and request (R17, R44, R144). -/

namespace Sys2Proof.Machine

/-! ### What the operations on a playback keep -/

/-- A condition on a playback that every request and task on it keeps, and the raising of its scan events. -/
structure KeptByRequests (Q : Playback → Prop) : Prop where
  go : ∀ lists p pb, pb.state ≠ .empty → Q pb → Q (pb.resumed.takeGo lists p).playback
  goto : ∀ lists p c ovr pb, pb.state ≠ .empty → Q pb → Q (pb.resumed.takeGoto lists p c ovr).playback
  back : ∀ lists p n pb, pb.state ≠ .empty → Q pb → Q (pb.resumed.takeBack lists p n).playback
  release : ∀ pb, pb.state ≠ .empty → Q pb → Q pb.resumed.takeRelease
  pause : ∀ pb, pb.state = .fading ∨ pb.state = .waiting → Q pb → Q { pb with state := .paused }
  resume : ∀ pb, pb.state = .paused → Q pb → Q pb.settle
  load : ∀ l pb, pb.state = .empty ∨ pb.state = .idle → Q pb →
    Q { pb with loaded := some l, current := none, state := .idle, clock := 0 }
  unload : ∀ pb, pb.state = .idle → Q pb →
    Q { pb with
      records := Table.fill 768 .cleared, loaded := none, current := none, follow := none, clock := 0,
      state := .empty }
  master : ∀ m pb, Q pb → Q { pb with master := m }
  rate : ∀ x pb, Q pb → Q { pb with rate := clamp 25 400 x }
  times : ∀ x y pb, x ≤ 6000 → y ≤ 6000 → Q pb → Q { pb with releaseTime := x, backTime := y }
  raised : ∀ pb, Q pb → Q { pb with scanEvents := [] }

/-- A condition that each of the six playbacks meets. -/
def EachPlayback (Q : Playback → Prop) (s : State) : Prop := ∀ p, Q (s.playbacks.get p)

section
variable {Q : Playback → Prop}

theorem EachPlayback.of_eq {s t : State} (h : EachPlayback Q s) (e : t.playbacks = s.playbacks) :
    EachPlayback Q t := fun p => by
  rw [e]
  exact h p

theorem EachPlayback.setPlayback {s : State} (h : EachPlayback Q s) (p : Fin 6) {pb : Playback} (k : Q pb) :
    EachPlayback Q (s.setPlayback p pb) := fun x => by
  rw [State.setPlayback_playbacks, Table.get_set]
  split
  · exact k
  · exact h x

theorem goTaken_playbacks (p : Fin 6) (s : State) : (s.goTaken p).playbacks = s.playbacks := by
  obtain h | ⟨x, -, h⟩ := goTaken_cases p s <;> rw [h]
  rfl

/-! ### Tasks and events -/

theorem EachPlayback.applyMoved {raise : Event → State → State}
    (hr : ∀ e s, EachPlayback Q s → EachPlayback Q (raise e s)) {s : State} (h : EachPlayback Q s)
    (p : Fin 6) {m : Moved} (k : Q m.playback) : EachPlayback Q (applyMoved raise p m s) := by
  unfold Machine.applyMoved
  refine raiseAll_keeps hr m.events ?_
  have set := h.setPlayback p k
  split
  · exact set.of_eq (goTaken_playbacks p _)
  · exact set

theorem EachPlayback.goPlayback (ops : KeptByRequests Q) {raise : Event → State → State}
    (hr : ∀ e s, EachPlayback Q s → EachPlayback Q (raise e s)) {s : State} (h : EachPlayback Q s)
    (p : Fin 6) : EachPlayback Q (goPlayback raise p s).1 := by
  unfold Machine.goPlayback
  simp only
  split
  · exact h
  · rename_i notEmpty
    exact h.applyMoved hr p (ops.go _ p _ notEmpty (h p))

theorem EachPlayback.gotoPlayback (ops : KeptByRequests Q) {raise : Event → State → State}
    (hr : ∀ e s, EachPlayback Q s → EachPlayback Q (raise e s)) {s : State} (h : EachPlayback Q s)
    (p : Fin 6) (cue ovr : Half) : EachPlayback Q (gotoPlayback raise p cue ovr s).1 := by
  unfold Machine.gotoPlayback
  generalize (if ovr.toNat = 65535 then none else some ovr.toNat) = override
  simp only
  split
  · exact h
  · rename_i notEmpty
    split
    · exact h
    · split
      · exact h
      · exact h.applyMoved hr p (ops.goto _ p _ _ _ notEmpty (h p))

theorem EachPlayback.backPlayback (ops : KeptByRequests Q) {raise : Event → State → State}
    (hr : ∀ e s, EachPlayback Q s → EachPlayback Q (raise e s)) {s : State} (h : EachPlayback Q s)
    (p : Fin 6) : EachPlayback Q (backPlayback raise p s).1 := by
  unfold Machine.backPlayback
  simp only
  split
  · exact h
  · rename_i notEmpty
    split
    · exact h
    · exact h.applyMoved hr p (ops.back _ p _ _ notEmpty (h p))

theorem EachPlayback.releasePlayback (ops : KeptByRequests Q) {s : State} (h : EachPlayback Q s)
    (p : Fin 6) : EachPlayback Q (releasePlayback p s).1 := by
  unfold Machine.releasePlayback
  simp only
  split
  · exact h
  · rename_i notEmpty
    exact h.setPlayback p (ops.release _ notEmpty (h p))

theorem EachPlayback.pausePlayback (ops : KeptByRequests Q) {s : State} (h : EachPlayback Q s)
    (p : Fin 6) : EachPlayback Q (pausePlayback p s).1 := by
  unfold Machine.pausePlayback
  simp only
  split
  · rename_i runs
    exact h.setPlayback p (ops.pause _ runs (h p))
  · exact h

theorem EachPlayback.resumePlayback (ops : KeptByRequests Q) {s : State} (h : EachPlayback Q s)
    (p : Fin 6) : EachPlayback Q (resumePlayback p s).1 := by
  unfold Machine.resumePlayback
  simp only
  split
  · rename_i paused
    exact h.setPlayback p (ops.resume _ paused (h p))
  · exact h

theorem EachPlayback.takeTask (ops : KeptByRequests Q) {raise : Event → State → State}
    (hr : ∀ e s, EachPlayback Q s → EachPlayback Q (raise e s)) {s : State} (h : EachPlayback Q s)
    (r : Fin 16) (t : Task) : EachPlayback Q (takeTask raise r t s) := by
  have taken : ∀ {x : State × Result}, EachPlayback Q x.1 → EachPlayback Q (taskTaken r x) := by
    intro x k
    unfold taskTaken
    split
    · exact k.of_eq rfl
    · exact k
  cases t with
  | go p => exact taken (h.goPlayback ops hr p)
  | pause p => exact taken (h.pausePlayback ops p)
  | resume p => exact taken (h.resumePlayback ops p)
  | release p => exact taken (h.releasePlayback ops p)
  | _ =>
    simp only [Machine.takeTask, clockTask, swapNow]
    (repeat' split) <;> exact h.of_eq rfl

/-- An event, with every task that it sets off, keeps the condition of each playback. -/
theorem EachPlayback.raiseEvent (ops : KeptByRequests Q) (e : Event) {s : State} (h : EachPlayback Q s) :
    EachPlayback Q (raiseEvent e s) := by
  refine raiseWithin_keeps (fun e s k => k.of_eq rfl) (fun raise hr r s k _ => ?_) _ e s h
  have marked := k.of_eq (t := s.setRoute r { s.triggers.routes.get r with holdoff := true }) rfl
  unfold issueTask
  split
  · exact marked.of_eq rfl
  · exact marked.takeTask ops hr r _

/-! ### Requests -/

/-- A request to a playback keeps the condition of each playback (R24). -/
theorem EachPlayback.playbackOwner (ops : KeptByRequests Q) {r : Request} (hr : r.onPlayback = true)
    {s : State} (h : EachPlayback Q s) : EachPlayback Q (perform r s).state := by
  have raise := fun e (s : State) (k : EachPlayback Q s) => k.raiseEvent ops e
  have request : ∀ {n : Byte} {take : Fin 6 → State × Result}, (∀ p, EachPlayback Q (take p).1) →
      EachPlayback Q (playbackRequest n s take).state := by
    intro n take k
    unfold playbackRequest
    split
    · exact h
    · exact k _
  cases r with
  | go p => exact request fun p => h.goPlayback ops raise p
  | goto p cue ovr => exact request fun p => h.gotoPlayback ops raise p cue ovr
  | back p => exact request fun p => h.backPlayback ops raise p
  | pause p => exact request fun p => h.pausePlayback ops p
  | resume p => exact request fun p => h.resumePlayback ops p
  | release p => exact request fun p => h.releasePlayback ops p
  | loadList p list =>
    refine request fun p => ?_
    simp only [loadListPlayback]
    split
    · exact h
    · split
      · rename_i atRest
        exact h.setPlayback p (ops.load _ _ atRest (h p))
      · exact h
  | unload p =>
    refine request fun p => ?_
    simp only [unloadPlayback]
    split
    · exact h
    · split
      · rename_i idle
        exact h.setPlayback p (ops.unload _ idle (h p))
      · exact h
  | setMaster p x => exact request fun p => h.setPlayback p (ops.master _ _ (h p))
  | setRate p x =>
    simp only [Machine.perform, ownerSetRate]
    split
    · exact h
    · exact h.setPlayback _ (ops.rate _ _ (h _))
  | setPlaybackTimes p x y =>
    refine request fun p => ?_
    simp only [setTimesPlayback]
    split
    · exact h
    · rename_i inRange
      simp only [Config.maxTenths, not_or, not_lt] at inRange
      exact h.setPlayback p (ops.times _ _ _ inRange.1 inRange.2 (h p))
  | _ => cases hr

end

end Sys2Proof.Machine
end

section
/-! PROOFS. A scan start as one write of the state: the swap test, the automatic GOs and the scan work, with
everything else as it was (R67 to R75). -/

namespace Sys2Proof.Machine

/-! ### The due mark of an AT GO swap (R69) -/

/-- A staged swap after the automatic GOs that some playbacks took. -/
def Staged.afterGos (took : Fin 6 → Bool) (ps : List (Fin 6)) (x : Staged) : Staged :=
  { x with due := x.due || ps.any fun p => took p && decide (x.method = .atGo p) }

theorem goTaken_eq (p : Fin 6) (s : State) :
    s.goTaken p = s.setStaged (s.level.staged.map fun x =>
      { x with due := x.due || decide (x.method = .atGo p) }) := by
  have same : ∀ x, s.level.staged = x → s = s.setStaged x := by
    rintro _ rfl
    rfl
  unfold State.goTaken
  cases h : s.level.staged with
  | none => exact same none h
  | some x =>
    simp only [Option.map_some]
    split
    · rename_i hm
      simp [hm]
    · rename_i hm
      simp only [hm, decide_false, Bool.or_false]
      exact same (some x) h

theorem foldl_goTaken (took : Fin 6 → Bool) (ps : List (Fin 6)) (s : State) :
    ps.foldl (fun s p => if took p then s.goTaken p else s) s =
      s.setStaged (s.level.staged.map (Staged.afterGos took ps)) := by
  induction ps generalizing s with
  | nil =>
    have same : Staged.afterGos took [] = id := by
      funext x
      simp [Staged.afterGos]
    rw [same, Option.map_id]
    rfl
  | cons p rest ih =>
    rw [List.foldl_cons, ih]
    cases ht : took p with
    | false =>
      have same : Staged.afterGos took (p :: rest) = Staged.afterGos took rest := by
        funext x
        simp [Staged.afterGos, ht]
      rw [if_neg Bool.false_ne_true, same]
    | true =>
      rw [if_pos rfl, goTaken_eq]
      have both : Staged.afterGos took (p :: rest) = Staged.afterGos took rest ∘ fun x =>
          { x with due := x.due || decide (x.method = .atGo p) } := by
        funext x
        simp [Staged.afterGos, ht, Bool.or_assoc]
      rw [both, ← Option.map_map]
      rfl

/-! ### The scan start as a whole -/

/-- The scan work of each playback in a scan that starts now (R21). -/
def State.works (s : State) (p : Fin 6) : Playback × Bool :=
  (s.playbacks.get p).scanWork s.lists s.level.inForce p

/-- A swap that is due at the swap test (R70). -/
def State.swapDue (s : State) : Bool := s.level.staged.any (·.due)

/-- The bank of a scan that starts now (R70). -/
def State.scanBank (s : State) : Fin 4 :=
  match s.level.staged with
  | some x => if x.due then x.target else s.level.activeBank
  | none => s.level.activeBank

/-- The switch states that a scan that starts now begins with (R70). -/
def State.scanSwitches (s : State) : Table Bool 1536 :=
  if s.swapDue then Table.fill 1536 false else s.patch.switches

/-- The scan that a scan start computes (R73 to R75). -/
def State.scanValues (s : State) : ScanRecord :=
  computeScan s.showClock (s.latchInputs s.level.inForce) (Table.tab fun p => (s.works p).1)
    { s.patch with switches := s.scanSwitches } s.scanBank

/-- The state that a scan start leaves, written out (R67 to R75). -/
def State.scanStarted (s : State) : State :=
  { s with
    playbacks := Table.tab fun p => (s.works p).1
    level := { s.level with
      phase := .computing
      timer := s.level.period
      inForce := s.level.period
      activeBank := s.scanBank
      staged := if s.swapDue then none
        else s.level.staged.map (Staged.afterGos (fun p => (s.works p).2) (List.finRange 6))
      newBank := if s.swapDue then some s.level.activeBank else s.level.newBank
      latch := s.latchInputs s.level.inForce
      beforeScan := s.playbacks
      work := s.scanValues }
    patch := { s.patch with switches := s.scanValues.circuits.map (·.switchOn) }
    triggers := { s.triggers with
      routes := s.triggers.routes.map fun x => { x with holdoff := false } } }

/-- The state after the swap test of a scan start. -/
theorem swapTest_eq (s : State) :
    swapTest s =
      { s with
        level := { s.level with
          activeBank := s.scanBank
          staged := if s.swapDue then none else s.level.staged
          newBank := if s.swapDue then some s.level.activeBank else s.level.newBank }
        patch := { s.patch with switches := s.scanSwitches } } := by
  unfold swapTest State.scanBank State.scanSwitches State.swapDue
  cases h : s.level.staged with
  | none =>
    simp only [Option.any_none, Bool.false_eq_true, if_false]
    rw [← h]
  | some x =>
    cases hd : x.due
    · simp only [Option.any_some, hd, Bool.false_eq_true, if_false]
      rw [← h]
    · simp only [Option.any_some, hd, if_true]

theorem scanWorks_eq (s : State) : scanWorks s.level.inForce s = Table.tab s.works :=
  Table.ext fun p => by simp [scanWorks, State.works]

/-- The playbacks' scan work with its automatic GOs, as one write (R21, R43, R69). -/
theorem playbackScanWork_eq (n : Nat) (s : State) :
    playbackScanWork n s =
      { s with
        playbacks := (scanWorks n s).map (·.1)
        level := { s.level with
          beforeScan := s.playbacks
          staged := s.level.staged.map
            (Staged.afterGos (fun p => ((scanWorks n s).get p).2) (List.finRange 6)) } } := by
  unfold playbackScanWork
  simp only
  rw [foldl_goTaken]
  rfl

theorem scanStart_eq (s : State) : scanStart s = s.scanStarted := by
  have works : scanWorks s.level.inForce
      (clearHoldoff (latchStep s.level.inForce (swapTest (beginScan s)))) = Table.tab s.works := by
    rw [swapTest_eq]
    exact scanWorks_eq s
  have playbacks : (Table.tab s.works).map (·.1) = Table.tab fun p => (s.works p).1 :=
    Table.ext fun p => by simp
  unfold scanStart
  simp only
  rw [playbackScanWork_eq, works, playbacks, swapTest_eq]
  simp only [Table.get_tab]
  unfold State.scanStarted
  have hd : (beginScan s).swapDue = s.swapDue := rfl
  have staged : (if s.swapDue = true then none else s.level.staged).map
      (Staged.afterGos (fun p => (s.works p).2) (List.finRange 6)) =
      if s.swapDue then none
      else s.level.staged.map (Staged.afterGos (fun p => (s.works p).2) (List.finRange 6)) := by
    split <;> rfl
  rw [← staged]
  rfl

end Sys2Proof.Machine
end

section
/-! PROOFS. Invariants that speak of the playbacks and of the levels: which occurrences can touch them, said once,
so that each of the two needs an argument for its own writes alone (R17, R66). -/

namespace Sys2Proof.Machine

/-! ### What leaves the levels as they are -/

/-- Two states whose desks have the same live arrays and that have the same scan values, the same sets at the rack
transmitters, the same patch banks and the same show memory. -/
structure SameLevels (s t : State) : Prop where
  live : ∀ d, (t.desk d).monitor.live = (s.desk d).monitor.live
  work : t.level.work = s.level.work
  last : t.level.last = s.level.last
  current : ∀ l, (t.links.get l).current = (s.links.get l).current
  queued : ∀ l, (t.links.get l).queued = (s.links.get l).queued
  sent : ∀ l, (t.links.get l).last = (s.links.get l).last
  banks : t.patch.banks = s.patch.banks
  memory : t.memory = s.memory

theorem SameLevels.of_links {s t : State} (live : ∀ d, (t.desk d).monitor.live = (s.desk d).monitor.live)
    (work : t.level.work = s.level.work) (last : t.level.last = s.level.last) (links : t.links = s.links)
    (banks : t.patch.banks = s.patch.banks) (memory : t.memory = s.memory) : SameLevels s t :=
  ⟨live, work, last, by simp [links], by simp [links], by simp [links], banks, memory⟩

/-- A write that touches neither the desks nor what the levels are made of. -/
theorem SameLevels.of_desks {s t : State} (a : t.deskA = s.deskA := by rfl) (b : t.deskB = s.deskB := by rfl)
    (work : t.level.work = s.level.work := by rfl) (last : t.level.last = s.level.last := by rfl)
    (links : t.links = s.links := by rfl) (banks : t.patch.banks = s.patch.banks := by rfl)
    (memory : t.memory = s.memory := by rfl) : SameLevels s t :=
  .of_links (fun d => by cases d <;> simp [State.desk, a, b]) work last links banks memory

theorem SameButEvents.sameLevels {s t : State} (h : SameButEvents s t) : SameLevels s t := by
  obtain ⟨staged, held, on, level⟩ := h.level
  exact .of_desks h.deskA h.deskB (by rw [level]) (by rw [level]) h.links (by rw [h.patch]) h.memory

theorem SameLevels.setPort (s : State) (d : Desk) (p : Port) : SameLevels s (s.setPort d p) :=
  .of_links (by simp) (by simp) (by simp) (by simp) (by simp) (by simp)

/-- A monitor replaced by one with the same live array. -/
theorem SameLevels.setMonitor {s : State} {d : Desk} {m : Monitor} (h : m.live = (s.desk d).monitor.live) :
    SameLevels s (s.setMonitor d m) := by
  refine .of_links (fun x => ?_) (by simp) (by simp) (by simp) (by simp) (by simp)
  rw [State.desk_setMonitor]
  split
  · rename_i hx
    rw [hx]
    exact h
  · exact .refl _

theorem SameLevels.tick (s : State) : SameLevels s (advanceMillisecond s) := by
  constructor <;> intros <;>
    simp only [advanceMillisecond, Table.get_map, Transmitter.tick, State.desk]

theorem SameLevels.darkTest (s : State) : SameLevels s (darkTest s) := by
  unfold Machine.darkTest
  simp only
  (repeat' split) <;> exact .of_desks

theorem darkTest_playbacks (s : State) : (darkTest s).playbacks = s.playbacks := by
  unfold darkTest
  simp only
  (repeat' split) <;> rfl

/-! ### The occurrences -/

/-- The five requests whose owners write what levels are made of. -/
def Request.writesLevels : Request → Bool
  | .setCircuit .. | .copyBank .. | .clearBank .. | .setLink .. | .store => true
  | _ => false

/-- An invariant of the levels: a condition `Q` of each playback, together with what it says of the live arrays,
the scan values, the sets sent, the banks and the show memory, each of whose own writes keeps it. -/
structure OnLevels (Q : Playback → Prop) (P : State → Prop) : Prop where
  ops : KeptByRequests Q
  playbacks : ∀ {s}, P s → EachPlayback Q s
  frame : ∀ {s t}, SameLevels s t → EachPlayback Q t → P s → P t
  power : ∀ s, P s → P (powerOn s)
  restart : ∀ d s, P s → P (restartPart d s)
  arrive : ∀ d base levels s, P s → P (s.setMonitor d ((s.desk d).monitor.arrive base levels s.showClock))
  lose : ∀ d s, P s → P (s.setMonitor d ((s.desk d).monitor.lose s.showClock))
  faded : ∀ d s, P s →
    P (s.setMonitor d { (s.desk d).monitor with live := Table.fill 768 0, fadeRunning := false })
  owner : ∀ r s, r.writesLevels = true → P s → P (perform r s).state
  scan : ∀ s, P s → P (scanStart s)
  post : ∀ s, P s → P { s with
    links := Table.zip (fun l t => (t.post (linkSet s.level.work.circuits l)).1) (Table.indices 4) s.links }
  record : ∀ s, P s → P (writeRecord s)
  frameEnd : ∀ l s, P s → P (s.setLink l (s.links.get l).frameEnd)
  refreshed : ∀ l s, P s → P (s.setLink l (s.links.get l).refreshed)
  valid : ∀ image since s, s.memory = .storing image since → P s → P { s with memory := .valid image }
  invalid : ∀ s, P s → P { s with memory := .invalid }

section
variable {Q : Playback → Prop} {P : State → Prop}

/-- A write that leaves the levels and the playbacks as they are. -/
theorem OnLevels.same (h : OnLevels Q P) {s t : State} (k : SameLevels s t) (e : t.playbacks = s.playbacks)
    (hs : P s) : P t := h.frame k ((h.playbacks hs).of_eq e) hs

/-- A write outside the desks, the playbacks and what the levels are made of. -/
theorem OnLevels.write (h : OnLevels Q P) {s t : State} (hs : P s) (same : SameLevels s t := by exact .of_desks)
    (playbacks : t.playbacks = s.playbacks := by rfl) : P t :=
  h.same same playbacks hs

theorem OnLevels.raise (h : OnLevels Q P) (e : Event) {s : State} (hs : P s) : P (raiseEvent e s) :=
  h.frame (SameButEvents.raiseEvent e s).sameLevels ((h.playbacks hs).raiseEvent h.ops e) hs

theorem OnLevels.task (h : OnLevels Q P) (r : Fin 16) (t : Task) {s : State} (hs : P s) :
    P (takeTask raiseEvent r t s) :=
  h.frame (SameButEvents.takeTask SameButEvents.raiseEvent r t s).sameLevels
    ((h.playbacks hs).takeTask h.ops (fun e _ k => k.raiseEvent h.ops e) r t) hs

/-! ### Contacts, clocks and desks -/

theorem OnLevels.acceptContact (h : OnLevels Q P) (c : Fin 4) {s : State} (hs : P s) : P (acceptContact c s) := by
  have set := fun x => h.write (t := s.setContact c x) hs
  obtain k | k := acceptContact_cases c s <;> rw [k]
  · exact set _
  · exact h.raise _ (set _)

theorem OnLevels.debounceEnd (h : OnLevels Q P) (c : Fin 4) {s : State} (hs : P s) : P (debounceEnd c s) := by
  unfold Machine.debounceEnd
  split
  · exact h.acceptContact c hs
  · exact hs

theorem OnLevels.changeContact (h : OnLevels Q P) (c : Fin 4) (high : Bool) {s : State} (hs : P s) :
    P (changeContact c high s) := by
  have set := fun x => h.write (t := s.setContact c x) hs
  unfold Machine.changeContact
  simp only
  split
  · exact hs
  · split
    · exact set _
    · split
      · exact h.acceptContact c (set _)
      · exact set _

theorem OnLevels.owedAdvance (h : OnLevels Q P) (c : Fin 3) {s : State} (hs : P s) : P (owedAdvance c s) := by
  have set := fun x => h.write (t := s.setClock c x) hs
  unfold Machine.owedAdvance
  split
  · obtain ⟨-, k⟩ | ⟨detail, -, k⟩ := advanceClock_cases c s <;> rw [k]
    · exact set _
    · exact h.raise _ (set _)
  · exact hs

theorem OnLevels.checkTimeout (h : OnLevels Q P) (d : Desk) {s : State} (hs : P s) : P (checkTimeout d s) := by
  obtain ⟨-, k⟩ | ⟨-, k⟩ := checkTimeout_cases d s <;> rw [k]
  · exact hs
  · exact h.raise _ (h.lose d s hs)

theorem OnLevels.expireFade (h : OnLevels Q P) (d : Desk) {s : State} (hs : P s) : P (expireFade d s) := by
  obtain ⟨-, k⟩ | ⟨-, k⟩ := expireFade_cases d s <;> rw [k]
  · exact hs
  · exact h.faded d s hs

theorem OnLevels.levelsArrive (h : OnLevels Q P) (d : Desk) (base : Nat) (levels : List Byte) {s : State}
    (hs : P s) : P (levelsArrive d base levels s) := by
  have arrived := h.arrive d base levels s hs
  unfold Machine.levelsArrive
  simp only
  split
  · exact h.raise _ arrived
  · exact arrived

/-! ### Commands -/

/-- Every owner keeps an invariant of the levels, when the five that write the levels do. -/
theorem OnLevels.perform (h : OnLevels Q P) (r : Request) {s : State} (hs : P s) : P (perform r s).state := by
  cases r with
  | go | goto | back | pause | resume | release | loadList | unload | setMaster | setRate
  | setPlaybackTimes =>
    exact h.frame (SameButEvents.playbackOwner (.refl _) s).sameLevels
      ((h.playbacks hs).playbackOwner h.ops (.refl _)) hs
  | setCircuit | copyBank | clearBank | setLink | store => exact h.owner _ s (.refl _) hs
  | setDesk d t act fade mrg rts =>
    simp only [Machine.perform, ownerSetDesk]
    (repeat' split) <;>
      first
        | exact hs
        | exact h.checkTimeout _ (h.same (.setMonitor (.refl _)) (by simp) hs)
  | setContact c e t =>
    have set := fun c x => h.write (t := s.setContact c x) hs
    simp only [Machine.perform, ownerSetContact]
    (repeat' split) <;>
      first
        | exact hs
        | exact h.debounceEnd _ (set _ _)
        | exact set _ _
  | readDesk d c =>
    simp only [Machine.perform, ownerReadDesk]
    (repeat' split) <;>
      first
        | exact hs
        | exact h.same (.of_links (by simp) (by simp) (by simp) (by simp) (by simp) (by simp)) (by simp) hs
  | _ =>
    simp only [Machine.perform, ownerWriteCue, writeCheckedCue, ownerDeleteCue, ownerClearList,
      ownerSelectBank, ownerCancelSwap, ownerLoadLaw, ownerPark, ownerUnpark,
      ownerUnparkAll, ownerSetGrandMaster, ownerBlackout, ownerSetScan, ownerSetClock,
      ownerClockAction, ownerSetWatch, ownerSetRoute, ownerTakeReports, ownerSetReportMask, ownerClearFlags,
      ownerReadStatus, ownerReadPlayback, ownerReadChannel, ownerReadCircuit, ownerReadCue,
      ownerReadBankEntry, ownerReadLaw, ownerReadTriggers, refuse]
    (repeat' split) <;> exact h.write hs

theorem OnLevels.keptByCommands (h : OnLevels Q P) : KeptByCommands P where
  port d p s hs := h.same (.setPort s d p) (by simp) hs
  processor _ _ hs := h.write hs
  held _ _ hs := h.write hs
  owner r _ hs := h.perform r hs

/-! ### Compute end, replies and the show memory -/

theorem OnLevels.postSets (h : OnLevels Q P) {s : State} (hs : P s) : P (postSets s) := by
  have skipped : ∀ (links : List (Fin 4)) (u : State), P u → P (raiseSkipped links u) := fun links u hu =>
    foldl_keeps (fun v _ hv => h.same (SameButEvents.report _ v).sameLevels rfl hv) links hu
  have posted := h.post s hs
  have links : (Table.zip (fun l (t : Transmitter) => t.post (linkSet s.level.work.circuits l))
      (Table.indices 4) s.links).map (·.1) =
      Table.zip (fun l t => (t.post (linkSet s.level.work.circuits l)).1) (Table.indices 4) s.links :=
    Table.ext fun l => by simp
  have drawn : ∀ {u : State}, P u → P { u with choices := u.choices + 1 } := fun hu => h.write hu
  unfold Machine.postSets raiseSkippedFreely
  simp only [links]
  split
  · exact posted
  · exact skipped _ _ posted
  · exact skipped _ _ (drawn posted)

theorem OnLevels.swapDone (h : OnLevels Q P) {s : State} (hs : P s) : P (swapDone s) := by
  unfold Machine.swapDone
  split
  · rename_i before _
    have raised := h.raise ⟨.swapDone, numbered s.level.activeBank, numbered before⟩ hs
    generalize raiseEvent _ s = u at raised ⊢
    exact h.write raised
  · exact hs

theorem OnLevels.raiseAll (h : OnLevels Q P) (es : List Event) {s : State} (hs : P s) :
    P (raiseAll raiseEvent es s) := raiseAll_keeps (fun e _ k => h.raise e k) es hs

theorem OnLevels.scanWorkEvents (h : OnLevels Q P) {s : State} (hs : P s) : P (scanWorkEvents s) := by
  unfold Machine.scanWorkEvents
  have same : SameLevels s { s with playbacks := s.playbacks.map fun pb => { pb with scanEvents := [] } } :=
    .of_desks
  refine h.raiseAll _ (h.frame same (fun p => ?_) hs)
  rw [Table.get_map]
  exact h.ops.raised _ (h.playbacks hs p)

theorem OnLevels.evaluateWatch (h : OnLevels Q P) (w : Fin 8) {s : State} (hs : P s) :
    P (evaluateWatch s w) := by
  have set := fun x => h.write (t := s.setWatch w x) hs
  unfold Machine.evaluateWatch
  simp only
  split
  · exact h.raise _ (set _)
  · exact set _

theorem OnLevels.computeEnd (h : OnLevels Q P) {s : State} (hs : P s) : P (computeEnd s) :=
  computeEnd_keeps
    (fun u k => h.postSets (h.write (s := u) k))
    (fun x rest u k => h.keptByCommands.takeHeld (fun r t _ kv => h.task r t kv) x
      (h.keptByCommands.held rest u k))
    (fun u k => h.same (.darkTest u) (darkTest_playbacks u) k) (fun _ k => h.swapDone k)
    (fun _ k => h.scanWorkEvents k) (fun _ w k => h.evaluateWatch w k) (fun u k => h.record u k)
    (fun _ k => h.keptByCommands.arbitrate k) hs

theorem OnLevels.replyDone (h : OnLevels Q P) (d : Desk) {s : State} (hs : P s) : P (replyDone d s) := by
  have sent : ∀ rest, P (s.setReplies d rest) := fun _ => h.keptByCommands.port _ _ _ hs
  unfold Machine.replyDone
  split
  · exact hs
  · simp only
    split
    · exact sent _
    · exact sent _
    · exact h.keptByCommands.port _ _ _ (sent _)
    · exact h.restart d _ (sent _)

theorem OnLevels.restartMoment (h : OnLevels Q P) {s : State} (hs : P s) : P (restartMoment s) := by
  unfold Machine.restartMoment
  split
  · exact h.restart _ s hs
  · exact hs

theorem OnLevels.storeCompleted (h : OnLevels Q P) {s : State} (hs : P s) : P (storeCompleted s) := by
  unfold Machine.storeCompleted
  split
  · rename_i image since hm
    exact h.raise _ (h.valid image since s hm hs)
  · exact hs
  · exact hs

theorem OnLevels.storeFaulted (h : OnLevels Q P) {s : State} (hs : P s) : P (storeFaulted s) := by
  unfold Machine.storeFaulted
  split
  · exact h.raise _ (h.invalid s hs)
  · exact hs
  · exact hs

/-- An invariant of the levels is kept by every occurrence. -/
theorem OnLevels.keptByOccurrences (h : OnLevels Q P) : KeptByOccurrences P where
  queue _ _ hs := h.write hs
  choice _ _ hs := h.write hs
  power := h.power
  millisecond s hs := h.same (.tick s) rfl hs
  receiver d x s hs :=
    h.same (.of_links (by simp) (by simp) (by simp) (by simp) (by simp) (by simp)) (by simp) hs
  levels d base levels _ hs := h.levelsArrive d base levels hs
  command d c _ hs := h.keptByCommands.commandArrives d c hs
  timeout d _ hs := h.checkTimeout d hs
  lossFade d _ hs := h.expireFade d hs
  reply d _ hs := h.replyDone d hs
  restart _ hs := h.restartMoment hs
  scan s _ _ hs := h.scan s hs
  compute _ _ hs := h.computeEnd hs
  frame := h.frameEnd
  refresh := h.refreshed
  input c high _ hs := h.changeContact c high hs
  debounce c _ hs := h.debounceEnd c hs
  clock c _ hs := h.owedAdvance c hs
  stored _ hs := h.storeCompleted hs
  faulted _ hs := h.storeFaulted hs

end

end Sys2Proof.Machine
end

section
/-! PROOFS. O54: every step keeps each playback in the condition of R18. Whatever is set on a playback with a list,
settling it gives it the state of R18 and an IDLE clock of 0; so it is enough that the settings and the clock stay
in range (R17, R18, R20). -/

namespace Sys2Proof.Machine

/-! ### Settling gives the condition of R18 -/

/-- What a playback needs besides its state to be in the condition of R18: a list, settings in the ranges of R17, and
a fade clock within its 64 bits. -/
structure Playback.Sound (pb : Playback) : Prop where
  loaded : pb.loaded.isSome = true
  rate : 25 ≤ pb.rate ∧ pb.rate ≤ 400
  times : pb.releaseTime ≤ 6000 ∧ pb.backTime ≤ 6000
  clock : pb.clock ≤ 2 ^ 64 - 1

/-- The condition that R18 gives for the state of a playback with a list. -/
def Playback.StateFits (pb : Playback) : Prop :=
  match pb.state with
  | .empty => False
  | .idle => pb.moving = false ∧ pb.follow = none ∧ pb.clock = 0
  | .fading => pb.moving = true
  | .waiting => pb.moving = false ∧ pb.follow.isSome = true
  | .paused => pb.moving = true ∨ pb.follow.isSome = true

theorem Playback.Sound.legal {pb : Playback} (h : pb.Sound) (fits : pb.StateFits) : pb.Legal := by
  have listed : pb.loaded ≠ none := Option.isSome_iff_ne_none.mp h.loaded
  unfold Playback.StateFits at fits
  refine ⟨⟨fun e => ?_, fun e => absurd e listed⟩, fun e => ?_, fun e => ?_, fun e => ?_, fun e => ?_,
    fun e => ?_, h.rate, h.times, h.clock⟩ <;> rw [e] at fits
  · exact fits.elim
  · exact fits.elim
  all_goals exact fits

theorem Playback.Legal.sound {pb : Playback} (h : pb.Legal) (notEmpty : pb.state ≠ .empty) : pb.Sound :=
  ⟨Option.isSome_iff_ne_none.mpr fun e => notEmpty (h.empty.mpr e), h.rate, h.times, h.clock⟩

/-- Whatever is set on a sound playback, it is legal once it is settled. -/
theorem Playback.Sound.settledWith {pb : Playback} (h : pb.Sound) (records : Table FadeRecord 768)
    (current follow : Option Nat) : (pb.settledWith records current follow).Legal := by
  refine Playback.Sound.legal ⟨h.loaded, h.rate, h.times, ?_⟩ ?_
  · simp only [Playback.settledWith]
    split
    · exact h.clock
    · exact Nat.zero_le _
  · cases hm : records.any (·.moving) <;> cases follow <;>
      simp [Playback.settledWith, Playback.StateFits, Playback.moving, hm]

theorem Playback.Sound.settle {pb : Playback} (h : pb.Sound) : pb.settle.Legal := by
  have settled := Playback.settle_eq_settledWith h.loaded pb.records pb.current pb.follow
  exact settled ▸ h.settledWith ..

@[simp] theorem Playback.settle_loaded (pb : Playback) : pb.settle.loaded = pb.loaded := by
  unfold Playback.settle
  (repeat' split) <;> rfl

theorem Playback.Sound.settled {pb : Playback} (h : pb.Sound) : pb.settle.Sound :=
  ⟨by simp [h.loaded], h.settle.rate, h.settle.times, h.settle.clock⟩

theorem Playback.Sound.resumed {pb : Playback} (h : pb.Sound) : pb.resumed.Sound := by
  unfold Playback.resumed
  split
  · exact h.settled
  · exact h

/-! ### GO, GOTO, BACK, RELEASE and the scan work -/

theorem Playback.Sound.went {pb : Playback} (h : pb.Sound) (p : Fin 6) (records : Table FadeRecord 768)
    (current follow : Option Nat) : (pb.went p records current follow).playback.Legal :=
  Playback.Sound.settle ⟨h.loaded, h.rate, h.times, h.clock⟩

theorem Playback.Sound.takeGo {pb : Playback} (h : pb.Sound) (lists : Table CueList 8) (p : Fin 6) :
    (pb.takeGo lists p).playback.Legal := by
  unfold Playback.takeGo
  simp only
  split
  · exact h.went p ..
  · exact Playback.Sound.settle ⟨h.loaded, h.rate, h.times, h.clock⟩

theorem Playback.Sound.takeBack {pb : Playback} (h : pb.Sound) (lists : Table CueList 8) (p : Fin 6) (n : Nat) :
    (pb.takeBack lists p n).playback.Legal := by
  unfold Playback.takeBack
  split
  · exact h.went ..
  · exact h.went ..

@[simp] theorem Playback.went_loaded (p : Fin 6) (pb : Playback) (records : Table FadeRecord 768)
    (current follow : Option Nat) : (pb.went p records current follow).playback.loaded = pb.loaded := by
  simp [Playback.went]

@[simp] theorem Playback.takeGo_loaded (lists : Table CueList 8) (p : Fin 6) (pb : Playback) :
    (pb.takeGo lists p).playback.loaded = pb.loaded := by
  unfold Playback.takeGo
  simp only
  split <;> simp

/-- A playback after its scan's advance and automatic GO is sound, whether it took one or not (R21). -/
theorem Playback.Sound.autoGo {pb : Playback} (h : pb.Sound) (lists : Table CueList 8) (length : Nat)
    (p : Fin 6) : ((pb.advanced length).autoGo lists p).playback.Sound := by
  have advanced : (pb.advanced length).Sound := ⟨h.loaded, h.rate, h.times, fadeClockValue_le _⟩
  unfold Playback.autoGo
  split
  · have legal := advanced.takeGo lists p
    exact ⟨by rw [Playback.takeGo_loaded]; exact h.loaded, legal.rate, legal.times, legal.clock⟩
  · exact advanced

/-- The events kept for compute end are no part of the condition. -/
theorem Playback.Legal.withEvents {pb : Playback} (h : pb.Legal) (es : List Event) :
    ({ pb with scanEvents := es } : Playback).Legal :=
  ⟨h.empty, h.emptyClear, h.idle, h.fading, h.waiting, h.paused, h.rate, h.times, h.clock⟩

theorem Playback.Legal.scanWork {pb : Playback} (h : pb.Legal) (lists : Table CueList 8) (length : Nat)
    (p : Fin 6) : (pb.scanWork lists length p).1.Legal := by
  unfold Playback.scanWork
  split
  · rename_i runs
    have notEmpty : pb.state ≠ .empty := by
      rintro e
      simp [e] at runs
    obtain ⟨loaded, rate, times, clock⟩ := (h.sound notEmpty).autoGo lists length p
    have evaluated := Playback.Sound.settle
      (pb := ((pb.advanced length).autoGo lists p).playback.evaluated) ⟨loaded, rate, times, clock⟩
    exact evaluated.withEvents _
  · exact h.withEvents []

/-- Every operation on a playback keeps it in the condition of R18. -/
theorem Playback.Legal.keptByRequests : KeptByRequests Playback.Legal where
  go lists p _ notEmpty h := (h.sound notEmpty).resumed.takeGo lists p
  goto _ p _ _ _ notEmpty h := (h.sound notEmpty).resumed.went ..
  back lists p n _ notEmpty h := (h.sound notEmpty).resumed.takeBack lists p n
  release pb notEmpty h :=
    have sound := (h.sound notEmpty).resumed
    Playback.Sound.settle ⟨sound.loaded, sound.rate, sound.times, sound.clock⟩
  pause pb runs h := by
    have sound := h.sound (fun e => by simp [e] at runs)
    refine Playback.Sound.legal ⟨sound.loaded, h.rate, h.times, h.clock⟩ ?_
    obtain fading | waiting := runs
    · exact .inl (h.fading fading)
    · exact .inr (h.waiting waiting).2
  resume pb paused h := (h.sound (by simp [paused])).settle
  load l pb atRest h := by
    refine Playback.Sound.legal ⟨rfl, h.rate, h.times, Nat.zero_le _⟩ ?_
    obtain empty | idle := atRest
    · obtain ⟨-, follow, records⟩ := h.emptyClear empty
      exact ⟨by simp only [Playback.moving, records, fill_moving, FadeRecord.cleared], follow, rfl⟩
    · obtain ⟨still, follow, -⟩ := h.idle idle
      exact ⟨still, follow, rfl⟩
  unload pb idle h :=
    ⟨⟨fun _ => rfl, fun _ => rfl⟩, fun _ => ⟨rfl, rfl, rfl⟩, nofun, nofun, nofun, nofun, h.rate, h.times,
      Nat.zero_le _⟩
  master m pb h :=
    ⟨h.empty, h.emptyClear, h.idle, h.fading, h.waiting, h.paused, h.rate, h.times, h.clock⟩
  rate x pb h :=
    ⟨h.empty, h.emptyClear, h.idle, h.fading, h.waiting, h.paused, ⟨clamp_ge .., clamp_le (by decide) x⟩,
      h.times, h.clock⟩
  times x y pb hx hy h :=
    ⟨h.empty, h.emptyClear, h.idle, h.fading, h.waiting, h.paused, h.rate, ⟨hx, hy⟩, h.clock⟩
  raised _ h := h.withEvents []

/-! ### The invariant -/

/-- A write that leaves the playbacks and the show memory as they are. -/
theorem PlaybacksInv.of_same {s t : State} (h : PlaybacksInv s) (playbacks : t.playbacks = s.playbacks)
    (memory : t.memory = s.memory) : PlaybacksInv t :=
  ⟨fun p => by rw [playbacks]; exact h.legal p, fun i hi => h.image i (by rw [← memory]; exact hi)⟩

theorem handedOver_times {s : State} (h : PlaybacksInv s) (p : Fin 6) :
    (s.memory.handedOver.playbacks.get p).releaseTime ≤ 6000 ∧
      (s.memory.handedOver.playbacks.get p).backTime ≤ 6000 := by
  cases hm : s.memory with
  | valid image => exact h.image image (by simp [hm, ShowMemory.image]) p
  | invalid => simp [ShowMemory.handedOver, Image.factory]
  | storing image since => simp [ShowMemory.handedOver, Image.factory]

/-- The image after power-on is one that was there before. -/
theorem image_powerOn {s : State} {i : Image} (h : i ∈ (powerOn s).memory.image) : i ∈ s.memory.image := by
  unfold powerOn at h
  cases hm : s.memory <;>
    simp only [hm, ShowMemory.atPowerOn, ShowMemory.image, reduceCtorEq, Option.mem_def] at h
  exact h

theorem PlaybacksInv.powerOn {s : State} (h : PlaybacksInv s) : PlaybacksInv (powerOn s) := by
  refine ⟨fun p => ?_, fun i hi => h.image i (image_powerOn hi)⟩
  obtain ⟨release, back⟩ := handedOver_times h p
  simp only [Machine.powerOn, playbacksFrom, Table.get_map]
  exact Playback.afterReset_legal _ release back

theorem PlaybacksInv.restartPart {s : State} (h : PlaybacksInv s) (d : Desk) :
    PlaybacksInv (restartPart d s) := by
  refine ⟨fun p => ?_, h.image⟩
  obtain ⟨release, back⟩ := (h.legal p).times
  simp only [Machine.restartPart, playbacksAtRestart, Table.get_map]
  exact Playback.afterReset_legal _ release back

theorem PlaybacksInv.scanStart {s : State} (h : PlaybacksInv s) : PlaybacksInv (scanStart s) := by
  rw [scanStart_eq]
  refine ⟨fun p => ?_, h.image⟩
  simp only [State.scanStarted, Table.get_tab]
  exact (h.legal p).scanWork ..

/-- The image that a STORE begins to write holds the times of the playbacks as they stand (R170). -/
theorem PlaybacksInv.ownerStore {s : State} (h : PlaybacksInv s) : PlaybacksInv (ownerStore s).state := by
  refine ⟨h.legal, fun i hi p => ?_⟩
  cases hi
  simp only [imageOf, Table.get_map]
  exact (h.legal p).times

theorem PlaybacksInv.levelsOwner {r : Request} (hr : r.writesLevels = true) {s : State} (h : PlaybacksInv s) :
    PlaybacksInv (perform r s).state := by
  cases r with
  | store => exact h.ownerStore
  | setCircuit | copyBank | clearBank | setLink =>
    simp only [perform, ownerSetCircuit, ownerCopyBank, ownerClearBank, ownerSetLink, refuse]
    (repeat' split) <;> exact h.of_same rfl rfl
  | _ => cases hr

theorem PlaybacksInv.onLevels : OnLevels Playback.Legal PlaybacksInv where
  ops := Playback.Legal.keptByRequests
  playbacks h := h.legal
  frame same legal h := ⟨legal, fun i hi => h.image i (by rw [← same.memory]; exact hi)⟩
  power _ h := h.powerOn
  restart d _ h := h.restartPart d
  arrive _ _ _ _ h := h.of_same (by simp) (by simp)
  lose _ _ h := h.of_same (by simp) (by simp)
  faded _ _ h := h.of_same (by simp) (by simp)
  owner _ _ hr h := h.levelsOwner hr
  scan _ h := h.scanStart
  post _ h := h.of_same rfl rfl
  record _ h := h.of_same rfl rfl
  frameEnd _ _ h := h.of_same rfl rfl
  refreshed _ _ h := h.of_same rfl rfl
  valid image since s hm h := ⟨h.legal, fun i hi => h.image i (by rw [hm]; exact hi)⟩
  invalid _ h := ⟨h.legal, nofun⟩

/-- Settles O54: every operation on a playback settles it again, and every step is made of occurrences. -/
theorem stepKeepsThePlaybacks : Obligations.StepKeepsThePlaybacks :=
  fun _ _ h step => step_keeps PlaybacksInv.onLevels.keptByOccurrences h step

end Sys2Proof.Machine
end

section
/-! PROOFS. O19: fade records, set from the present level and evaluated between start and target (R19, R22, R23). -/

namespace Sys2Proof.Machine

theorem FadeRecord.setMove_up {r : FadeRecord} {clock target : Nat} {up down : Pair} (h : r.level < target) :
    (r.setMove clock target up down).delay = up.delay * 100000 ∧
      (r.setMove clock target up down).time = up.time * 100000 := by
  simp [FadeRecord.setMove, h, Config.usPerTenth]

theorem FadeRecord.setMove_down {r : FadeRecord} {clock target : Nat} {up down : Pair} (h : target < r.level) :
    (r.setMove clock target up down).delay = down.delay * 100000 ∧
      (r.setMove clock target up down).time = down.time * 100000 := by
  simp [FadeRecord.setMove, h, Nat.not_lt.mpr h.le, Config.usPerTenth]

theorem FadeRecord.setMove_stay (r : FadeRecord) (clock : Nat) (up down : Pair) :
    (r.setMove clock r.level up down).delay = 0 ∧ (r.setMove clock r.level up down).time = 0 := by
  simp [FadeRecord.setMove]

theorem settingAMoveKeepsTheLevel : Clause.SettingAMoveKeepsTheLevel := by
  intro clock target up down r x
  refine ⟨rfl, rfl, rfl, rfl, ?_, FadeRecord.setMove_up, FadeRecord.setMove_down, ?_⟩
  · simp only [x, FadeRecord.setMove_moving, bne_iff_ne, ne_comm]
  · rintro rfl
    exact r.setMove_stay clock up down

/-! ### The three rows of R22 -/

section
variable {c : Nat} {r : FadeRecord}

theorem FadeRecord.evaluate_before (h : r.moving = true) (early : c - r.origin < r.delay) :
    r.evaluate c = { r with level := r.start } := by
  simp [FadeRecord.evaluate, h, early]

theorem FadeRecord.evaluate_after (h : r.moving = true) (late : r.delay ≤ c - r.origin)
    (past : r.time = 0 ∨ r.time ≤ c - r.origin - r.delay) :
    r.evaluate c = { r with level := r.target, moving := false } := by
  simp [FadeRecord.evaluate, h, Nat.not_lt.mpr late, past]

theorem FadeRecord.evaluate_during (h : r.moving = true) (late : r.delay ≤ c - r.origin)
    (on : c - r.origin - r.delay < r.time) :
    r.evaluate c =
      { r with
        level :=
          let change := fadeChange (distance r.target r.start) (c - r.origin - r.delay) r.time
          if r.start < r.target then r.start + change else r.start - change } := by
  have going : ¬(r.time = 0 ∨ r.time ≤ c - r.origin - r.delay) := by omega
  simp only [FadeRecord.evaluate, h, Nat.not_lt.mpr late, going, Bool.not_true, Bool.false_eq_true, if_false]

/-- A change within the whole distance leaves the level between start and target. -/
theorem FadeRecord.evaluate_between (h : r.moving = true) :
    min r.start r.target ≤ (r.evaluate c).level ∧ (r.evaluate c).level ≤ max r.start r.target := by
  obtain early | late := Nat.lt_or_ge (c - r.origin) r.delay
  · rw [FadeRecord.evaluate_before h early]
    exact ⟨Nat.min_le_left .., Nat.le_max_left ..⟩
  · by_cases past : r.time = 0 ∨ r.time ≤ c - r.origin - r.delay
    · rw [FadeRecord.evaluate_after h late past]
      exact ⟨Nat.min_le_right .., Nat.le_max_right ..⟩
    · have on : c - r.origin - r.delay < r.time := by omega
      have change := fadeChange_le (span := distance r.target r.start) on
      rw [FadeRecord.evaluate_during h late on]
      simp only
      generalize fadeChange _ _ _ = change at *
      simp only [distance] at change
      split <;> omega

end

theorem evaluationStaysBetweenStartAndTarget : Clause.EvaluationStaysBetweenStartAndTarget := by
  intro c r h _ x e
  refine ⟨FadeRecord.evaluate_before h, FadeRecord.evaluate_after h, fun late on => ?_,
    FadeRecord.evaluate_between h⟩
  have during : x = _ := FadeRecord.evaluate_during h late on
  refine ⟨by rw [during], fun up => ?_, fun down => ?_⟩ <;> rw [during]
  · have change := fadeChange_le (span := r.target - r.start) on
    have span : distance r.target r.start = r.target - r.start := by simp only [distance]; omega
    change _ = r.start + fadeChange (r.target - r.start) (e - r.delay) r.time
    simp only [span, e]
    generalize fadeChange _ _ _ = share at change ⊢
    split <;> omega
  · have change := fadeChange_le (span := r.start - r.target) on
    have span : distance r.target r.start = r.start - r.target := by simp only [distance]; omega
    change _ + fadeChange (r.start - r.target) (e - r.delay) r.time = r.start
    simp only [span, e]
    generalize fadeChange _ _ _ = share at change ⊢
    split <;> omega

/-- Settles O19, by the direction of the move and the three rows of R22. -/
theorem fadeRecordsMoveBetweenStartAndTarget : Obligations.FadeRecordsMoveBetweenStartAndTarget :=
  ⟨settingAMoveKeepsTheLevel, evaluationStaysBetweenStartAndTarget⟩

end Sys2Proof.Machine
end

section
/-! PROOFS. The scales of R66 through each operation that makes a level: fade records, desks, the merge, the output
step and the sets of the rack transmitters (R19, R57, R73, R74, R104, R121). -/

namespace Sys2Proof.Machine

/-! ### Fade records and playbacks (R19) -/

theorem FadeRecord.Legal.level {r : FadeRecord} (h : r.Legal) : r.level ≤ 4095 := by
  have start := h.start
  have target := h.target
  obtain ⟨-, above⟩ | rest := h.between
  · omega
  · rw [h.rest rest]
    exact target

theorem FadeRecord.Legal.setMove {r : FadeRecord} (h : r.Legal) (clock : Nat) {target : Nat}
    (ht : target ≤ 4095) (up down : Pair) : (r.setMove clock target up down).Legal where
  start := h.level
  target := ht
  rest still := by simpa using still
  between := .inl ⟨Nat.min_le_left .., Nat.le_max_left ..⟩

theorem FadeRecord.Legal.evaluate {r : FadeRecord} (h : r.Legal) (c : Nat) : (r.evaluate c).Legal := by
  cases moving : r.moving
  · rw [FadeRecord.evaluate_of_not_moving moving]
    exact h
  · refine ⟨by simpa using h.start, by simpa using h.target, fun still => ?_, .inl ?_⟩
    · obtain early | late := Nat.lt_or_ge (c - r.origin) r.delay
      · simp [FadeRecord.evaluate_before moving early, moving] at still
      · by_cases past : r.time = 0 ∨ r.time ≤ c - r.origin - r.delay
        · rw [FadeRecord.evaluate_after moving late past]
        · rw [FadeRecord.evaluate_during moving late (by omega)] at still
          simp [moving] at still
    · simpa using FadeRecord.evaluate_between moving

/-- Every fade record of a playback is on its scale. -/
def Playback.OnScale (pb : Playback) : Prop := ∀ ch, (pb.records.get ch).Legal

theorem Playback.OnScale.of_records {pb x : Playback} (h : pb.OnScale) (e : x.records = pb.records) :
    x.OnScale := fun ch => by
  rw [e]
  exact h ch

@[simp] theorem Playback.settle_records (pb : Playback) : pb.settle.records = pb.records := by
  unfold Playback.settle
  (repeat' split) <;> rfl

@[simp] theorem Playback.resumed_records (pb : Playback) : pb.resumed.records = pb.records := by
  unfold Playback.resumed
  split
  · exact pb.settle_records
  · rfl

@[simp] theorem Playback.went_records (p : Fin 6) (pb : Playback) (records : Table FadeRecord 768)
    (current follow : Option Nat) : (pb.went p records current follow).playback.records = records := by
  simp [Playback.went]

theorem cueMoves_legal (clock : Nat) (c : Cue) {rs : Table FadeRecord 768} (h : ∀ ch, (rs.get ch).Legal)
    (ch : Fin 768) : ((cueMoves clock c rs).get ch).Legal := by
  unfold cueMoves
  generalize c.entries = entries
  induction entries generalizing rs with
  | nil => exact h ch
  | cons e rest ih =>
    refine ih fun x => ?_
    rw [Table.get_set]
    split
    · exact (h e.channel).setMove clock (expand_le e.level) _ _
    · exact h x

theorem moveAll_legal (clock : Nat) {target : Fin 768 → Nat} (ht : ∀ ch, target ch ≤ 4095) (up down : Pair)
    {rs : Table FadeRecord 768} (h : ∀ ch, (rs.get ch).Legal) (ch : Fin 768) :
    ((moveAll clock target up down rs).get ch).Legal := by
  rw [moveAll_get]
  exact (h ch).setMove clock (ht ch) up down

theorem Playback.OnScale.resumed {pb : Playback} (h : pb.OnScale) : pb.resumed.OnScale :=
  h.of_records pb.resumed_records

theorem Playback.OnScale.takeGo {pb : Playback} (h : pb.OnScale) (lists : Table CueList 8) (p : Fin 6) :
    (pb.takeGo lists p).playback.OnScale := by
  unfold Playback.takeGo
  simp only
  split
  · intro ch
    rw [Playback.went_records]
    exact cueMoves_legal _ _ h ch
  · exact h.of_records (by simp)

theorem Playback.OnScale.takeGoto {pb : Playback} (h : pb.OnScale) (lists : Table CueList 8) (p : Fin 6)
    (c : Cue) (override : Option Nat) : (pb.takeGoto lists p c override).playback.OnScale := by
  intro ch
  unfold Playback.takeGoto
  rw [Playback.went_records]
  exact moveAll_legal _ (fun _ => expand_le _) _ _ h ch

theorem Playback.OnScale.takeBack {pb : Playback} (h : pb.OnScale) (lists : Table CueList 8) (p : Fin 6)
    (n : Nat) : (pb.takeBack lists p n).playback.OnScale := by
  unfold Playback.takeBack
  split
  · exact h.takeGoto lists p _ _
  · intro ch
    rw [Playback.went_records]
    exact moveAll_legal _ (fun _ => Nat.zero_le _) _ _ h ch

theorem Playback.OnScale.takeRelease {pb : Playback} (h : pb.OnScale) : pb.takeRelease.OnScale := by
  intro ch
  unfold Playback.takeRelease
  rw [Playback.settle_records]
  exact moveAll_legal _ (fun _ => Nat.zero_le _) _ _ h ch

theorem Playback.OnScale.scanWork {pb : Playback} (h : pb.OnScale) (lists : Table CueList 8) (length : Nat)
    (p : Fin 6) : (pb.scanWork lists length p).1.OnScale := by
  unfold Playback.scanWork
  split
  · have went : ((pb.advanced length).autoGo lists p).playback.OnScale := by
      unfold Playback.autoGo
      have advanced : (pb.advanced length).OnScale := h.of_records rfl
      split
      · exact advanced.takeGo lists p
      · exact advanced
    have evaluated : ((pb.advanced length).autoGo lists p).playback.evaluated.OnScale := fun ch => by
      rw [Playback.evaluated_get]
      exact (went ch).evaluate _
    exact evaluated.of_records (by simp)
  · exact h.of_records rfl

theorem fill_cleared_legal (ch : Fin 768) : ((Table.fill 768 FadeRecord.cleared).get ch).Legal := by
  rw [Table.get_fill]
  exact FadeRecord.cleared_legal

/-- Every operation on a playback keeps its records on their scale. -/
theorem Playback.OnScale.keptByRequests : KeptByRequests Playback.OnScale where
  go lists p _ _ h := h.resumed.takeGo lists p
  goto lists p c ovr _ _ h := h.resumed.takeGoto lists p c ovr
  back lists p n _ _ h := h.resumed.takeBack lists p n
  release _ _ h := h.resumed.takeRelease
  pause _ _ h := h.of_records rfl
  resume pb _ h := h.of_records pb.settle_records
  load _ _ _ h := h.of_records rfl
  unload _ _ _ := fill_cleared_legal
  master _ _ h := h.of_records rfl
  rate _ _ h := h.of_records rfl
  times _ _ _ _ _ h := h.of_records rfl
  raised _ h := h.of_records rfl

/-! ### Desks (R51, R56 to R58) -/

/-- The values of a table of channels lie on the intensity scale. -/
def OnScale (t : Table Nat 768) : Prop := ∀ ch, t.get ch ≤ 4095

theorem OnScale.zero : OnScale (Table.fill 768 0) := fun ch => by simp

theorem OnScale.faded {live : Table Nat 768} (h : OnScale live) (e t : Nat) :
    OnScale (live.map (fadedLevel e t)) := fun ch => by
  rw [Table.get_map]
  exact (fadedLevel_le e t _).trans (h ch)

theorem OnScale.writeSlots {live : Table Nat 768} (h : OnScale live) (base : Nat) (levels : List Byte) :
    OnScale (writeSlots base levels live) := by
  unfold Machine.writeSlots
  generalize levels.zipIdx base = slots
  induction slots generalizing live with
  | nil => exact h
  | cons x rest ih =>
    refine ih ?_
    beta_reduce
    split
    · intro ch
      rw [Table.get_set]
      split
      · exact expand_le x.1
      · exact h ch
    · exact h

theorem Monitor.measure_live (m : Monitor) (base : Nat) (now : Time) : (m.measure base now).live = m.live := by
  unfold Monitor.measure
  split <;> rfl

theorem OnScale.arrive {m : Monitor} (h : OnScale m.live) (base : Nat) (levels : List Byte) (now : Time) :
    OnScale (m.arrive base levels now).live := by
  have back : OnScale (m.writeBack now).live := by
    unfold Monitor.writeBack
    split
    · exact h.faded _ _
    · exact h
  unfold Monitor.arrive
  rw [Monitor.measure_live]
  exact back.writeSlots base levels

theorem OnScale.lose {m : Monitor} (h : OnScale m.live) (now : Time) : OnScale (m.lose now).live := by
  unfold Monitor.lose
  simp only
  split
  · exact h
  · exact .zero
  · split
    · exact h
    · exact .zero

theorem OnScale.present {x : DeskLatch} (h : OnScale x.live) : OnScale x.present.levels := by
  unfold DeskLatch.present
  split
  · split
    · exact h.faded _ _
    · exact h
  · exact .zero

/-! ### The merge (R73) -/

theorem foldl_zip_max_get (ts : List (Table Nat 768)) (t : Table Nat 768) (ch : Fin 768) :
    (ts.foldl (Table.zip max) t).get ch = (ts.map fun x => x.get ch).foldl max (t.get ch) := by
  induction ts generalizing t with
  | nil => rfl
  | cons x rest ih => simp only [List.foldl_cons, List.map_cons, ih, Table.get_zip]

theorem foldl_max_le_iff {xs : List Nat} {m n : Nat} : xs.foldl max m ≤ n ↔ m ≤ n ∧ ∀ x ∈ xs, x ≤ n := by
  induction xs generalizing m with
  | nil => simp
  | cons x rest ih => simp only [List.foldl_cons, ih, Nat.max_le, List.forall_mem_cons, and_assoc]

theorem foldl_max_mem (xs : List Nat) (m : Nat) : xs.foldl max m = m ∨ xs.foldl max m ∈ xs := by
  induction xs generalizing m with
  | nil => exact .inl rfl
  | cons x rest ih =>
    rw [List.foldl_cons, List.mem_cons]
    obtain h | h := ih (max m x)
    · rw [h]
      obtain k | k := Nat.le_total m x
      · exact .inr (.inl (Nat.max_eq_right k))
      · exact .inl (Nat.max_eq_left k)
    · exact .inr (.inr h)

/-- The merged value is the greatest of what the desks present and the playbacks contribute (R73). -/
theorem mergeAll_le_iff {a b : DeskPresent} {contributions : Table (Table Nat 768) 6} {ch : Fin 768} {n : Nat} :
    (mergeAll a b contributions).get ch ≤ n ↔
      a.levels.get ch ≤ n ∧ b.levels.get ch ≤ n ∧ ∀ p, (contributions.get p).get ch ≤ n := by
  unfold mergeAll
  simp [foldl_zip_max_get, foldl_max_le_iff, Table.mem_rows, and_assoc]

/-- The merged value is one of them (R73). -/
theorem mergeAll_mem (a b : DeskPresent) (contributions : Table (Table Nat 768) 6) (ch : Fin 768) :
    (mergeAll a b contributions).get ch = a.levels.get ch ∨
      (mergeAll a b contributions).get ch = b.levels.get ch ∨
      ∃ p, (mergeAll a b contributions).get ch = (contributions.get p).get ch := by
  unfold mergeAll
  rw [foldl_zip_max_get, Table.get_zip]
  obtain h | h := foldl_max_mem (contributions.rows.map fun x => x.get ch)
    (max (a.levels.get ch) (b.levels.get ch))
  · rw [h]
    obtain k | k := Nat.le_total (a.levels.get ch) (b.levels.get ch)
    · exact .inr (.inl (Nat.max_eq_right k))
    · exact .inl (Nat.max_eq_left k)
  · obtain ⟨t, ht, e⟩ := List.mem_map.mp h
    obtain ⟨p, rfl⟩ := Table.mem_rows.mp ht
    exact .inr (.inr ⟨p, e.symm⟩)

/-! ### Circuits (R90, R104) -/

@[simp] theorem outputStep_intensity (laws : Table Law 8) (parks : List Park) (k : Fin 1536) (r : CircuitRecord)
    (on : Bool) (i : Nat) : (outputStep laws parks k r on i).intensity = i := by
  unfold outputStep
  (repeat' split) <;> rfl

/-- Every output value fits a byte: it is a park level, lies below a top-set, or is 255 or 0 (R104, R108). -/
theorem outputStep_output_le (laws : Table Law 8) (parks : List Park) (k : Fin 1536) (r : CircuitRecord)
    (on : Bool) (i : Nat) : (outputStep laws parks k r on i).output ≤ 255 := by
  have byte : ∀ x : Byte, x.toNat ≤ 255 := fun x => Nat.lt_succ_iff.mp x.isLt
  have topSet : ∀ l, limited r l ≤ 255 := fun l => (Nat.min_le_right ..).trans (byte r.topSet)
  unfold outputStep
  split
  · exact byte _
  · split
    · exact topSet _
    · exact topSet _
    · simp only
      split <;> decide

theorem CircuitRecord.intensity_le {r : CircuitRecord} (h : r.proportion ≤ 100) {levels : Table Nat 768}
    (hl : OnScale levels) : r.intensity levels ≤ 4095 := by
  unfold CircuitRecord.intensity
  split
  · exact Nat.zero_le _
  · rename_i c _
    have product : levels.get c * r.proportion ≤ 4095 * 100 := Nat.mul_le_mul (hl c) h
    omega

/-! ### The scan (R73 to R75) -/

/-- A scan computed from levels on their scale is on its scale. -/
theorem computeScan_legal {x : Latch} {playbacks : Table Playback 6} {patch : Patch} (start : Time) {bank : Fin 4}
    (a : OnScale x.deskA.live) (b : OnScale x.deskB.live) (records : ∀ p, (playbacks.get p).OnScale)
    (banks : ∀ k, ((patch.banks.get bank).get k).proportion ≤ 100) :
    (computeScan start x playbacks patch bank).Legal := by
  have contributions : ∀ p ch, ((contributionsOf x.masters playbacks).get p).get ch ≤ 4095 := fun p ch => by
    simp only [contributionsOf, Table.get_zip, Playback.contribution_get]
    exact (scaleBy_le _ _).trans (records p ch).level
  have merged : OnScale (mergeAll x.deskA.present x.deskB.present (contributionsOf x.masters playbacks)) :=
    fun ch => mergeAll_le_iff.mpr ⟨a.present ch, b.present ch, fun p => contributions p ch⟩
  have levels : ∀ {m : Table Nat 768} (ch : Fin 768),
      (channelLevels x.grandMaster x.blackout m).get ch ≤ m.get ch := fun ch => by
    rw [channelLevels_get]
    split
    · exact Nat.zero_le _
    · exact scaleBy_le _ _
  refine ⟨fun ch => ⟨a.present ch, b.present ch⟩, contributions, fun ch => ⟨merged ch, levels ch⟩, fun k => ?_⟩
  simp only [computeScan, circuitStep_get, outputStep_intensity]
  exact ⟨CircuitRecord.intensity_le (banks k) fun ch => (levels ch).trans (merged ch), outputStep_output_le ..⟩

/-! ### The sets of the rack transmitters (R121) -/

/-- The values of a set are output values. -/
def LinkSet.OnScale (x : LinkSet) : Prop := ∀ i : Fin 384, x.get i ≤ 255

/-- The values of a link's set are the output values of its circuits, in circuit order (R79). -/
theorem linkSet_get (circuits : Table CircuitResult 1536) (l : Fin 4) (i : Fin 384) :
    (linkSet circuits l).get i = (circuits.get ⟨384 * l.val + i.val, by omega⟩).output := by
  simp [linkSet, Table.get_eq]

theorem Transmitter.setsLegal.of_sets {t u : Transmitter} (h : t.setsLegal) (current : u.current = t.current)
    (queued : u.queued = t.queued) (last : u.last = t.last) : u.setsLegal := fun x hx => by
  rw [current, queued, last] at hx
  exact h x hx

theorem Transmitter.setsLegal.toIdle {t : Transmitter} (h : t.setsLegal) : t.toIdle.setsLegal := by
  rintro x (hx | hx | hx)
  · cases hx
  · exact h x (.inr (.inl hx))
  · exact h x (.inr (.inr hx))

theorem Transmitter.setsLegal.takeSet {t : Transmitter} (h : t.setsLegal) {x : LinkSet} (hx : x.OnScale) :
    (t.takeSet x).setsLegal := by
  obtain ⟨-, k⟩ | ⟨a, rest, -, k⟩ := t.takeSet_cases x <;> rw [k] <;> rintro y (hy | hy | hy)
  · cases hy
  · exact h y (.inr (.inl hy))
  · cases hy
    exact hx
  · cases hy
    exact hx
  · exact h y (.inr (.inl hy))
  · cases hy
    exact hx

theorem Transmitter.setsLegal.post {t : Transmitter} (h : t.setsLegal) {x : LinkSet} (hx : x.OnScale) :
    (t.post x).1.setsLegal := by
  obtain ⟨-, k⟩ | ⟨-, -, -, k⟩ | ⟨a, -, -, -, k⟩ := t.post_cases x <;> rw [k]
  · exact h
  · exact h.takeSet hx
  · rintro y (hy | hy | hy)
    · exact h y (.inl hy)
    · cases hy
      exact hx
    · exact h y (.inr (.inr hy))

theorem Transmitter.silenced_setsLegal (t : Transmitter) : t.silenced.setsLegal := by
  rintro x (hx | hx | hx) <;> cases hx

theorem Transmitter.setsLegal.frameEnd {t : Transmitter} (h : t.setsLegal) : t.frameEnd.setsLegal := by
  have ended : t.cycleEnd.setsLegal := by
    unfold Transmitter.cycleEnd
    split
    · rename_i x hx
      refine Transmitter.setsLegal.takeSet ?_ (h x (.inr (.inl hx)))
      rintro y (hy | hy | hy)
      · exact h y (.inl hy)
      · cases hy
      · exact h y (.inr (.inr hy))
    · exact h.toIdle
  unfold Transmitter.frameEnd
  split
  · exact h
  · split
    · split
      · exact h.of_sets rfl rfl rfl
      · exact ended
    · exact t.silenced_setsLegal

theorem Transmitter.setsLegal.refreshed {t : Transmitter} (h : t.setsLegal) : t.refreshed.setsLegal := by
  unfold Transmitter.refreshed
  split
  · split
    · rename_i x hx
      split
      · exact h.of_sets rfl rfl rfl
      · exact h.takeSet (h x (.inr (.inr hx)))
    · exact h
  · exact h

theorem Transmitter.setsLegal.configure {t : Transmitter} (h : t.setsLegal) (enabled : Bool) (mask : BitVec 4) :
    (t.configure enabled mask).setsLegal := by
  unfold Transmitter.configure
  simp only
  split
  · exact Transmitter.silenced_setsLegal _
  · exact h.of_sets rfl rfl rfl

end Sys2Proof.Machine
end

section
/-! PROOFS. O55: every step keeps every level on its scale. Each write of a live array, a record, a scan, a set or a
bank keeps the scales by the laws of its operation (R19, R66, R89). -/

namespace Sys2Proof.Machine

/-- The desks' live arrays, the records, the scans, the sets and the banks as another state has them. -/
theorem LevelsInv.frame {s t : State} (h : LevelsInv s) (k : SameLevels s t)
    (records : EachPlayback Playback.OnScale t) : LevelsInv t where
  live d c := by
    rw [k.live]
    exact h.live d c
  records := records
  work := by
    rw [k.work]
    exact h.work
  last := by
    rw [k.last]
    exact h.last
  sets l := (h.sets l).of_sets (k.current l) (k.queued l) (k.sent l)
  banks b c := by
    rw [k.banks]
    exact h.banks b c
  image i hi := h.image i (by rw [← k.memory]; exact hi)

/-! ### One write each -/

theorem LevelsInv.setMonitor {s : State} (h : LevelsInv s) (d : Desk) {m : Monitor} (hm : OnScale m.live) :
    LevelsInv (s.setMonitor d m) where
  live x c := by
    rw [State.desk_setMonitor]
    split
    · exact hm c
    · exact h.live x c
  records p c := by
    rw [State.setMonitor_playbacks]
    exact h.records p c
  work := by
    rw [State.setMonitor_level]
    exact h.work
  last := by
    rw [State.setMonitor_level]
    exact h.last
  sets l := by
    rw [State.setMonitor_links]
    exact h.sets l
  banks b k := by
    rw [State.setMonitor_patch]
    exact h.banks b k
  image i hi := h.image i (by rwa [State.setMonitor_memory] at hi)

/-- The sets of the four transmitters replaced by others on their scale. -/
theorem LevelsInv.withLinks {s : State} (h : LevelsInv s) {links : Table Transmitter 4}
    (hl : ∀ l, (links.get l).setsLegal) : LevelsInv { s with links := links } where
  live := h.live
  records := h.records
  work := h.work
  last := h.last
  sets := hl
  banks := h.banks
  image := h.image

theorem LevelsInv.setLink {s : State} (h : LevelsInv s) (l : Fin 4) {t : Transmitter} (ht : t.setsLegal) :
    LevelsInv (s.setLink l t) := h.withLinks fun x => by
  rw [Table.get_set]
  split
  · exact ht
  · exact h.sets x

theorem LevelsInv.writeBank {s : State} (h : LevelsInv s) (b : Fin 4) {new : Bank}
    (hn : ∀ k, (new.get k).proportion ≤ 100) : LevelsInv (writeBank b new s) where
  live := h.live
  records := h.records
  work := h.work
  last := h.last
  sets := h.sets
  banks c k := by
    simp only [Machine.writeBank, Table.get_set]
    split
    · exact hn k
    · exact h.banks c k
  image := h.image

/-- The show memory replaced by one whose image holds legal proportions. -/
theorem LevelsInv.withMemory {s : State} (h : LevelsInv s) {m : ShowMemory}
    (hm : ∀ i ∈ m.image, ∀ (b : Fin 4) (k : Fin 1536), ((i.banks.get b).get k).proportion ≤ 100) :
    LevelsInv { s with memory := m } where
  live := h.live
  records := h.records
  work := h.work
  last := h.last
  sets := h.sets
  banks := h.banks
  image := hm

/-! ### Power-on, restart and the scan -/

theorem handedOver_proportion {s : State} (h : LevelsInv s) (b : Fin 4) (k : Fin 1536) :
    ((s.memory.handedOver.banks.get b).get k).proportion ≤ 100 := by
  cases hm : s.memory with
  | valid image => exact h.image image (by simp [hm, ShowMemory.image]) b k
  | invalid => simp [ShowMemory.handedOver, Image.factory, CircuitRecord.default]
  | storing image since => simp [ShowMemory.handedOver, Image.factory, CircuitRecord.default]

theorem LevelsInv.powerOn {s : State} (h : LevelsInv s) : LevelsInv (powerOn s) where
  live d := by cases d <;> exact OnScale.zero
  records p := by
    simp only [Machine.powerOn, playbacksFrom, Table.get_map]
    exact fill_cleared_legal
  work := ScanRecord.afterReset_legal _
  last := ScanRecord.afterReset_legal _
  sets l := by
    simp only [Machine.powerOn, Table.get_map]
    exact Transmitter.afterPowerOn_setsLegal _ _
  banks := handedOver_proportion h
  image i hi := h.image i (image_powerOn hi)

theorem LevelsInv.restartPart {s : State} (h : LevelsInv s) (d : Desk) : LevelsInv (restartPart d s) where
  live d := by cases d <;> exact OnScale.zero
  records p := by
    simp only [Machine.restartPart, playbacksAtRestart, Table.get_map]
    exact fill_cleared_legal
  work := ScanRecord.afterReset_legal _
  last := ScanRecord.afterReset_legal _
  sets := h.sets
  banks := h.banks
  image := h.image

theorem LevelsInv.works {s : State} (h : LevelsInv s) (p : Fin 6) : (s.works p).1.OnScale :=
  Playback.OnScale.scanWork (h.records p) s.lists s.level.inForce p

/-- A scan that starts now is computed from levels on their scale. -/
theorem LevelsInv.scanValues {s : State} (h : LevelsInv s) : s.scanValues.Legal :=
  computeScan_legal s.showClock (h.live .A) (h.live .B)
    (fun p => by
      rw [Table.get_tab]
      exact h.works p)
    (h.banks s.scanBank)

theorem LevelsInv.scanStart {s : State} (h : LevelsInv s) : LevelsInv (scanStart s) := by
  have banks : s.scanStarted.patch.banks = s.patch.banks := by simp only [State.scanStarted]
  rw [scanStart_eq]
  refine ⟨h.live, fun p => ?_, h.scanValues, h.last, h.sets, ?_, h.image⟩
  · simp only [State.scanStarted, Table.get_tab]
    exact h.works p
  · rw [banks]
    exact h.banks

theorem ScanRecord.Legal.linkSet {r : ScanRecord} (h : r.Legal) {l : Fin 4} :
    (linkSet r.circuits l).OnScale := fun i => by
  rw [linkSet_get]
  exact (h.circuits _).2

theorem LevelsInv.posted {s : State} (h : LevelsInv s) : LevelsInv { s with
    links := Table.zip (fun l t => (t.post (linkSet s.level.work.circuits l)).1) (Table.indices 4) s.links } :=
  h.withLinks fun l => by
    rw [Table.get_zip, Table.get_indices]
    exact (h.sets l).post h.work.linkSet

/-! ### The owners that write a bank, a transmitter or the show memory -/

/-- A record read by SET CIRCUIT has its proportion clamped (R92). -/
theorem readCircuitRecord_proportion {circuit source : Half} {proportion law preheat topSet : Byte}
    {x : Fin 1536 × CircuitRecord}
    (h : readCircuitRecord circuit source proportion law preheat topSet = some x) : x.2.proportion ≤ 100 := by
  unfold readCircuitRecord at h
  split at h
  · cases h
    exact Nat.min_le_right ..
  · cases h

theorem LevelsInv.ownerSetCircuit {s : State} (h : LevelsInv s) (bank : Byte) (circuit source : Half)
    (proportion law preheat topSet : Byte) :
    LevelsInv (ownerSetCircuit bank circuit source proportion law preheat topSet s).state := by
  unfold Machine.ownerSetCircuit
  split
  · exact h
  · rename_i b _
    split
    · exact h
    · rename_i k r read
      refine h.writeBank b fun x => ?_
      rw [Table.get_set]
      split
      · exact readCircuitRecord_proportion read
      · exact h.banks b x

theorem LevelsInv.levelsOwner {r : Request} (hr : r.writesLevels = true) {s : State} (h : LevelsInv s) :
    LevelsInv (perform r s).state := by
  cases r with
  | setCircuit => exact h.ownerSetCircuit ..
  | copyBank source destination =>
    simp only [perform, ownerCopyBank]
    split
    · exact h.writeBank _ (h.banks _)
    · exact h
  | clearBank bank =>
    simp only [perform, ownerClearBank]
    split
    · exact h
    · exact h.writeBank _ fun k => by simp [CircuitRecord.default]
  | setLink link enabled mask =>
    simp only [perform, ownerSetLink]
    (repeat' split) <;> first | exact h | exact h.setLink _ ((h.sets _).configure _ _)
  | store =>
    refine h.withMemory fun i hi => ?_
    cases hi
    exact h.banks
  | _ => cases hr

theorem LevelsInv.onLevels : OnLevels Playback.OnScale LevelsInv where
  ops := Playback.OnScale.keptByRequests
  playbacks h := h.records
  frame same records h := h.frame same records
  power _ h := h.powerOn
  restart d _ h := h.restartPart d
  arrive d base levels _ h := h.setMonitor d (OnScale.arrive (h.live d) base levels _)
  lose d _ h := h.setMonitor d (OnScale.lose (h.live d) _)
  faded d _ h := h.setMonitor d .zero
  owner _ _ hr h := h.levelsOwner hr
  scan _ h := h.scanStart
  post _ h := h.posted
  record _ h := ⟨h.live, h.records, h.work,
    ⟨h.work.desks, h.work.contributions, h.work.channels, h.work.circuits⟩, h.sets, h.banks, h.image⟩
  frameEnd l _ h := h.setLink l (h.sets l).frameEnd
  refreshed l _ h := h.setLink l (h.sets l).refreshed
  valid image since s hm h := h.withMemory fun i hi => h.image i (by rw [hm]; exact hi)
  invalid _ h := h.withMemory nofun

/-- Settles O55: every write keeps its scale, and every step is made of occurrences. -/
theorem stepKeepsTheLevelScales : Obligations.StepKeepsTheLevelScales :=
  fun _ _ h step => step_keeps LevelsInv.onLevels.keptByOccurrences h step

end Sys2Proof.Machine
end

section
/-! PROOFS. O20 and O21: the scan work of a playback, with and without an automatic GO (R20 to R22, R29, R35). -/

namespace Sys2Proof.Machine

/-! ### A GO of a playback with a list (R25 to R27) -/

section
variable {pb : Playback} {l : Fin 8} {lists : Table CueList 8}

theorem linkEvents_eq (p : Fin 6) (cues : CueList) (current : Option Nat) :
    linkEvents p (missingLink cues current) = missingEvents p cues current := rfl

theorem Playback.went_eq (hl : pb.loaded = some l) (p : Fin 6) (records : Table FadeRecord 768)
    (current follow : Option Nat) :
    pb.went p records current follow =
      ⟨pb.settledWith records current follow, goEvents p (orZero current) records, true⟩ := by
  simp only [Playback.went, Playback.settle_eq_settledWith (pb := pb) (by simp [hl]) records current follow]
  rfl

theorem Playback.takeGo_next (hl : pb.loaded = some l) (p : Fin 6) {c : Cue}
    (next : nextCue (lists.get l) pb.current = some c)
    (limit : ∀ f ∈ c.follow, pb.clock + f * 100000 < 2 ^ 64) :
    pb.takeGo lists p =
      ⟨pb.settledWith (cueMoves pb.clock c pb.records) (some c.number)
          (c.follow.map fun f => pb.clock + f * 100000),
        missingEvents p (lists.get l) pb.current ++ goEvents p c.number (cueMoves pb.clock c pb.records),
        true⟩ := by
  rw [← followDue_of_lt limit]
  simp only [Playback.takeGo, Playback.list_of_loaded hl, next, Playback.went_eq hl, linkEvents_eq, orZero]

theorem Playback.takeGo_end (hl : pb.loaded = some l) (p : Fin 6)
    (next : nextCue (lists.get l) pb.current = none) :
    pb.takeGo lists p =
      ⟨pb.settledWith pb.records pb.current none,
        missingEvents p (lists.get l) pb.current ++ [⟨.playbackEnd, numbered p, orZero pb.current⟩],
        false⟩ := by
  have settled := Playback.settle_eq_settledWith (pb := pb) (by simp [hl]) pb.records pb.current none
  simp only [Playback.takeGo, Playback.list_of_loaded hl, next, settled, linkEvents_eq]

end

/-! ### The scan work (R20, R21) -/

theorem Playback.scanWork_still {pb : Playback} (fading : pb.state ≠ .fading) (waiting : pb.state ≠ .waiting)
    (lists : Table CueList 8) (length : Nat) (p : Fin 6) :
    pb.scanWork lists length p = ({ pb with scanEvents := [] }, false) := by
  simp only [Playback.scanWork, fading, waiting, or_self, if_false]

theorem Playback.advanced_eq {pb : Playback} {length : Nat}
    (limit : pb.clock + length * 10 * pb.rate < 2 ^ 64) :
    pb.advanced length = { pb with clock := pb.clock + length * 10 * pb.rate } := by
  simp only [Playback.advanced, fadeClockValue_of_lt limit]

/-- PLAYBACK DONE when the last moving record stops in a scan (R35). -/
def stopEvents (p : Fin 6) (current : Option Nat) (before after : Table FadeRecord 768) : List Event :=
  if before.any (·.moving) && !after.any (·.moving) then [⟨.playbackDone, numbered p, orZero current⟩] else []

/-- A playback that runs, whatever its automatic GO leaves: it is evaluated at its clock, settled again, and its
events are kept, PLAYBACK DONE last (R21, R35). -/
theorem Playback.scanWork_runs {pb after : Playback} {lists : Table CueList 8} {length : Nat} {p : Fin 6}
    (runs : pb.state = .fading ∨ pb.state = .waiting) {m : Moved}
    (going : (pb.advanced length).autoGo lists p = m) (hl : after.loaded.isSome = true)
    {records : Table FadeRecord 768} {current follow : Option Nat}
    (left : m.playback = after.settledWith records current follow) :
    pb.scanWork lists length p =
      ({ after.settledWith (records.map (FadeRecord.evaluate after.clock)) current follow with
          scanEvents :=
            m.events ++ stopEvents p current records (records.map (FadeRecord.evaluate after.clock)) },
        m.taken) := by
  have moving : m.playback.moving = records.any (·.moving) := by rw [left]; rfl
  have completed : (if m.playback.moving then doneEvents p m.playback.evaluated else []) =
      stopEvents p current records (records.map (FadeRecord.evaluate after.clock)) := by
    rw [moving, left]
    unfold stopEvents doneEvents Playback.moving Playback.evaluated Playback.settledWith
    cases records.any (·.moving)
    · rfl
    · simp only [if_true, Bool.true_or, Bool.true_and]
      cases (records.map (FadeRecord.evaluate after.clock)).any (·.moving) <;> rfl
  simp only [Playback.scanWork, if_pos runs, going]
  rw [completed, left, Playback.settle_evaluated hl]

/-- A playback that runs in the condition of R18 is settled already, wherever its clock stands. -/
theorem Playback.settledWith_self {pb : Playback} (h : pb.Legal) (runs : pb.state = .fading ∨ pb.state = .waiting)
    (clock : Nat) :
    ({ pb with clock := clock } : Playback).settledWith pb.records pb.current pb.follow =
      { pb with clock := clock } := by
  obtain fading | waiting := runs
  · have moving : pb.records.any (·.moving) = true := h.fading fading
    simp only [Playback.settledWith, moving, if_true, Bool.true_or, ← fading]
  · have still : pb.records.any (·.moving) = false := (h.waiting waiting).1
    have follow := (h.waiting waiting).2
    simp only [Playback.settledWith, still, follow, if_true, Bool.or_true, Bool.false_eq_true, if_false,
      ← waiting]

theorem Playback.Legal.listed_of_runs {pb : Playback} (h : pb.Legal)
    (runs : pb.state = .fading ∨ pb.state = .waiting) : pb.loaded.isSome = true :=
  (h.sound fun e => by simp [e] at runs).loaded

theorem Playback.followIsDue_iff {pb : Playback} :
    pb.followIsDue = true ↔ ∃ due, pb.follow = some due ∧ due ≤ pb.clock := by
  unfold Playback.followIsDue
  cases pb.follow <;> simp

/-- Settles O20: the automatic GO is left out, and what stands is evaluated at the new clock. -/
theorem scanWorkAdvancesTheFade : Obligations.ScanWorkAdvancesTheFade := by
  intro lists length p pb legal clock x
  refine ⟨fun fading waiting => Playback.scanWork_still fading waiting lists length p,
    fun runs limit ahead => ?_⟩
  have going : (pb.advanced length).autoGo lists p = ⟨{ pb with clock := clock }, [], false⟩ := by
    have notDue : ¬({ pb with clock := clock } : Playback).followIsDue = true := by
      rw [Playback.followIsDue_iff]
      rintro ⟨due, hdue, le⟩
      exact absurd (ahead due hdue) (Nat.not_lt.mpr le)
    rw [Playback.advanced_eq limit, Playback.autoGo, if_neg notDue]
  have work := Playback.scanWork_runs (after := { pb with clock := clock }) runs going
    (legal.listed_of_runs runs) (Playback.settledWith_self legal runs clock).symm
  exact ⟨congrArg Prod.snd work, congrArg Prod.fst work⟩

/-! ### The automatic GO (R29) -/

theorem Playback.autoGo_due {pb : Playback} {lists : Table CueList 8} {length due : Nat} {p : Fin 6}
    (limit : pb.clock + length * 10 * pb.rate < 2 ^ 64) (follow : pb.follow = some due)
    (reached : due ≤ pb.clock + length * 10 * pb.rate) :
    (pb.advanced length).autoGo lists p =
      ({ pb with clock := pb.clock + length * 10 * pb.rate } : Playback).takeGo lists p := by
  have isDue : ({ pb with clock := pb.clock + length * 10 * pb.rate } : Playback).followIsDue = true :=
    Playback.followIsDue_iff.mpr ⟨due, follow, reached⟩
  rw [Playback.advanced_eq limit, Playback.autoGo, if_pos isDue]

/-- PLAYBACK DONE arises once, with the GO or when its moves stop in the same scan (R35). -/
theorem goEvents_stopEvents (p : Fin 6) (cue clock : Nat) (records : Table FadeRecord 768) :
    goEvents p cue records ++ stopEvents p (some cue) records (records.map (FadeRecord.evaluate clock)) =
      goEvents p cue (records.map (FadeRecord.evaluate clock)) := by
  unfold goEvents stopEvents
  cases hm : records.any (·.moving)
  · rw [evaluate_of_still hm, hm]
    rfl
  · simp only [if_true, Bool.true_and]
    cases (records.map (FadeRecord.evaluate clock)).any (·.moving) <;> rfl

theorem followGoesToTheNextCue : Clause.FollowGoesToTheNextCue := by
  intro lists length p pb l due c legal runs hl clock limit follow reached next sorted followLimit
  refine ⟨cueMoves clock c pb.records, cueMoves_set sorted clock pb.records, ?_⟩
  have going := Playback.autoGo_due (lists := lists) (p := p) limit follow reached
  rw [Playback.takeGo_next (pb := { pb with clock := clock }) hl p next followLimit] at going
  rw [Playback.scanWork_runs (after := { pb with clock := clock }) runs going (legal.listed_of_runs runs) rfl]
  simp only [List.append_assoc, goEvents_stopEvents]

theorem followFindsTheEndOfTheList : Clause.FollowFindsTheEndOfTheList := by
  intro lists length p pb l due legal runs hl clock limit follow reached next
  have going := Playback.autoGo_due (lists := lists) (p := p) limit follow reached
  rw [Playback.takeGo_end (pb := { pb with clock := clock }) hl p next] at going
  rw [Playback.scanWork_runs (after := { pb with clock := clock }) runs going (legal.listed_of_runs runs) rfl]
  simp only [List.append_assoc]
  rfl

/-- Settles O21, with and without a next cue. -/
theorem followTakesAnAutomaticGo : Obligations.FollowTakesAnAutomaticGo :=
  ⟨followGoesToTheNextCue, followFindsTheEndOfTheList⟩

end Sys2Proof.Machine
end

section
/-! PROOFS. O30, O32, O33 and O45: the requests to a playback, and the same acts as tasks of a route (R24 to R28,
R32 to R34, R37 to R41, R44, R138, R145). -/

namespace Sys2Proof.Machine

/-! ### What the acts on a playback leave -/

section
variable {pb : Playback} {l : Fin 8} {lists : Table CueList 8}

theorem Playback.resumed_takeGo_next (h : pb.Legal) (hl : pb.loaded = some l) (p : Fin 6) {c : Cue}
    (next : nextCue (lists.get l) pb.current = some c)
    (limit : ∀ f ∈ c.follow, pb.clock + f * 100000 < 2 ^ 64) :
    pb.resumed.takeGo lists p =
      ⟨pb.settledWith (cueMoves pb.clock c pb.records) (some c.number)
          (c.follow.map fun f => pb.clock + f * 100000),
        missingEvents p (lists.get l) pb.current ++ goEvents p c.number (cueMoves pb.clock c pb.records),
        true⟩ := by
  rw [(Playback.resumed_of_legal h (by simp [hl])).2]
  exact Playback.takeGo_next (pb := { pb with state := pb.resumed.state }) hl p next limit

theorem Playback.resumed_takeGo_end (h : pb.Legal) (hl : pb.loaded = some l) (p : Fin 6)
    (next : nextCue (lists.get l) pb.current = none) :
    pb.resumed.takeGo lists p =
      ⟨pb.settledWith pb.records pb.current none,
        missingEvents p (lists.get l) pb.current ++ [⟨.playbackEnd, numbered p, orZero pb.current⟩],
        false⟩ := by
  rw [(Playback.resumed_of_legal h (by simp [hl])).2]
  exact Playback.takeGo_end (pb := { pb with state := pb.resumed.state }) hl p next

end

section
variable {k : Fin 6} {s : State} {raise : Event → State → State}

theorem goPlayback_empty (h : (s.playbacks.get k).state = .empty) : goPlayback raise k s = (s, .wrongState) := by
  simp only [goPlayback, if_pos h]

theorem goPlayback_taken (h : (s.playbacks.get k).state ≠ .empty) {m : Moved}
    (hm : (s.playbacks.get k).resumed.takeGo s.lists k = m) :
    goPlayback raise k s = (applyMoved raise k m s, if m.taken then .done else .endOfList) := by
  simp only [goPlayback, if_neg h, hm]

/-- A GO on its next cue: the playback goes there, an AT GO swap of it is due, then the events come (R26, R69). -/
theorem goPlayback_next {l : Fin 8} {c : Cue} (h : (s.playbacks.get k).Legal)
    (hl : (s.playbacks.get k).loaded = some l)
    (next : nextCue (s.lists.get l) (s.playbacks.get k).current = some c)
    (limit : ∀ f ∈ c.follow, (s.playbacks.get k).clock + f * 100000 < 2 ^ 64) :
    let pb := s.playbacks.get k
    let records := cueMoves pb.clock c pb.records
    goPlayback raise k s =
      (raiseAll raise (missingEvents k (s.lists.get l) pb.current ++ goEvents k c.number records)
        ((s.setPlayback k (pb.settledWith records (some c.number)
          (c.follow.map fun f => pb.clock + f * 100000))).goTaken k), .done) := by
  exact goPlayback_taken (h.not_empty hl) (Playback.resumed_takeGo_next h hl k next limit)

/-- A GO at the end of the list: the follow is gone and the moves go on (R27). -/
theorem goPlayback_end {l : Fin 8} (h : (s.playbacks.get k).Legal) (hl : (s.playbacks.get k).loaded = some l)
    (next : nextCue (s.lists.get l) (s.playbacks.get k).current = none) :
    let pb := s.playbacks.get k
    goPlayback raise k s =
      (raiseAll raise (missingEvents k (s.lists.get l) pb.current ++
          [⟨.playbackEnd, numbered k, orZero pb.current⟩])
        (s.setPlayback k (pb.settledWith pb.records pb.current none)), .endOfList) := by
  exact goPlayback_taken (h.not_empty hl) (Playback.resumed_takeGo_end h hl k next)

theorem releasePlayback_empty (h : (s.playbacks.get k).state = .empty) : releasePlayback k s = (s, .done) := by
  simp only [releasePlayback, if_pos h]

/-- The records of a RELEASE: every channel moves to 0 over the release time (R32). -/
def releaseMoves (pb : Playback) : Table FadeRecord 768 :=
  moveAll pb.clock (fun _ => 0) ⟨0, pb.releaseTime⟩ ⟨0, pb.releaseTime⟩ pb.records

theorem releasePlayback_taken (h : (s.playbacks.get k).Legal) (notEmpty : (s.playbacks.get k).state ≠ .empty) :
    let pb := s.playbacks.get k
    releasePlayback k s = (s.setPlayback k (pb.settledWith (releaseMoves pb) none none), .done) := by
  have listed := (h.sound notEmpty).loaded
  have released := Playback.settle_eq_settledWith
    (pb := { s.playbacks.get k with state := (s.playbacks.get k).resumed.state }) listed
    (releaseMoves (s.playbacks.get k)) none none
  simp only [releasePlayback, if_neg notEmpty, Playback.takeRelease]
  rw [(Playback.resumed_of_legal h listed).2]
  exact congrArg (fun pb => (s.setPlayback k pb, Result.done)) released

theorem pausePlayback_runs (h : (s.playbacks.get k).state = .fading ∨ (s.playbacks.get k).state = .waiting) :
    pausePlayback k s = (s.setPlayback k { s.playbacks.get k with state := .paused }, .done) := by
  simp only [pausePlayback, if_pos h]

theorem pausePlayback_refused (fading : (s.playbacks.get k).state ≠ .fading)
    (waiting : (s.playbacks.get k).state ≠ .waiting) : pausePlayback k s = (s, .wrongState) := by
  simp only [pausePlayback, fading, waiting, or_self, if_false]

/-- A PAUSED playback is resumed FADING or WAITING, and nothing else of it changes (R34). -/
theorem Playback.settle_of_paused {pb : Playback} (h : pb.Legal) (paused : pb.state = .paused) :
    pb.settle = { pb with state := if pb.moving then .fading else .waiting } := by
  obtain ⟨l, hl⟩ := Option.isSome_iff_exists.mp (h.sound (by simp [paused])).loaded
  unfold Playback.settle
  simp only [hl]
  split
  · rfl
  · rename_i still
    rw [if_pos ((h.paused paused).resolve_left still)]

theorem resumePlayback_paused (h : (s.playbacks.get k).Legal) (paused : (s.playbacks.get k).state = .paused) :
    resumePlayback k s =
      (s.setPlayback k { s.playbacks.get k with
        state := if (s.playbacks.get k).moving then .fading else .waiting }, .done) := by
  simp only [resumePlayback, if_pos paused, Playback.settle_of_paused h paused]

theorem resumePlayback_refused (h : (s.playbacks.get k).state ≠ .paused) :
    resumePlayback k s = (s, .wrongState) := by
  simp only [resumePlayback, if_neg h]

end

/-! ### The replies of playback requests (R24) -/

/-- A request answered without data, whatever its owner has changed. -/
theorem exec_withoutData {i : Instr} {d : Desk} {tag : Byte} {r : Request} {s u : State} {x : Result}
    (row : i.request = some (d, tag, r)) (h : TakenAtOnce d r s) (notRestart : r ≠ .restart)
    (owner : perform r (begun d tag r s) = ⟨u, x, []⟩) : exec i s = .next (answered d tag r x [] u) := by
  rw [exec_taken row h notRestart, owner]
  simp only [replyData_nil]

theorem playbackRequest_withoutData {n : Byte} {k : Fin 6} {s u : State} {take : Fin 6 → State × Result}
    {x : Result} (hk : number 6 n.toNat = some k) (ht : take k = (u, x)) (hx : x ≠ .done) :
    playbackRequest n s take = ⟨u, x, []⟩ := by
  simp only [playbackRequest, hk, ht, if_neg hx]

/-- A request that replaces its playback and is answered with the new one. -/
theorem playbackRequest_set {n : Byte} {k : Fin 6} {s : State} {pb : Playback}
    {take : Fin 6 → State × Result} (hk : number 6 n.toNat = some k)
    (ht : take k = (s.setPlayback k pb, .done)) :
    playbackRequest n s take = ⟨s.setPlayback k pb, .done, playbackData pb⟩ := by
  rw [playbackRequest_done hk ht, State.setPlayback_playbacks, Table.get_set_self]

/-! ### O30: GO (R25 to R28) -/

theorem goTakesTheNextCue : Clause.GoTakesTheNextCue := by
  intro d tag p k l c s taken hk pb legal hl next sorted limit
  obtain ⟨moved, kept⟩ := cueMoves_set sorted pb.clock pb.records
  refine ⟨cueMoves pb.clock c pb.records, moved, kept, ?_⟩
  refine exec_done rfl taken (by simp) (playbackRequest_done hk ?_)
  have same : (begun d tag (.go p) s).playbacks.get k = pb := by rw [begun_playbacks]
  have lists := begun_lists d tag (.go p) s
  have went := goPlayback_next (k := k) (s := begun d tag (.go p) s) (raise := raiseEvent) (l := l) (c := c)
  rw [same, lists] at went
  exact went legal hl next limit

theorem goAtTheEndOfTheList : Clause.GoAtTheEndOfTheList := by
  intro d tag p k s taken hk pb s0 legal
  have same : s0.playbacks.get k = pb := by simp only [s0, begun_playbacks, pb]
  have lists : s0.lists = s.lists := begun_lists ..
  refine ⟨fun empty => ?_, fun l hl next => ?_⟩
  · exact exec_refused rfl taken (by simp)
      (playbackRequest_refused hk (goPlayback_empty (by rwa [same])) (by decide))
  · refine exec_withoutData rfl taken (by simp) (playbackRequest_withoutData hk ?_ (by decide))
    have ended := goPlayback_end (k := k) (s := s0) (raise := raiseEvent) (l := l)
    rw [same, lists] at ended
    exact ended legal hl next

/-- Settles O30, with and without a next cue. -/
theorem goTakesACueOrEndsTheList : Obligations.GoTakesACueOrEndsTheList :=
  ⟨goTakesTheNextCue, goAtTheEndOfTheList⟩

/-! ### O32: RELEASE, PAUSE and RESUME (R32 to R34) -/

theorem releaseFadesToZero : Clause.ReleaseFadesToZero := by
  intro d tag p k s taken hk pb s0 legal
  have same : s0.playbacks.get k = pb := by simp only [s0, begun_playbacks, pb]
  refine ⟨fun empty => ?_, fun notEmpty => ⟨releaseMoves pb, fun ch => moveAll_get .., ?_⟩⟩
  · rw [← same]
    exact exec_done rfl taken (by simp) (playbackRequest_done hk (releasePlayback_empty (by rwa [same])))
  · have released := releasePlayback_taken (k := k) (s := s0)
    rw [same] at released
    exact exec_done rfl taken (by simp) (playbackRequest_set hk (released legal notEmpty))

theorem pauseAndResumeKeepTheFade : Clause.PauseAndResumeKeepTheFade := by
  intro d tag p k s hk pb legal
  have same : ∀ r, (begun d tag r s).playbacks.get k = pb := fun r => by rw [begun_playbacks]
  refine ⟨fun taken => ⟨fun runs => ?_, fun fading waiting => ?_⟩,
    fun taken => ⟨fun paused => ?_, fun notPaused => ?_⟩⟩
  · have stopped := pausePlayback_runs (k := k) (s := begun d tag (.pause p) s)
    rw [same] at stopped
    exact exec_done rfl taken (by simp) (playbackRequest_set hk (stopped runs))
  · refine exec_refused rfl taken (by simp) (playbackRequest_refused hk (pausePlayback_refused ?_ ?_) (by decide))
    · rwa [same]
    · rwa [same]
  · have resumed := resumePlayback_paused (k := k) (s := begun d tag (.resume p) s)
    rw [same] at resumed
    exact exec_done rfl taken (by simp) (playbackRequest_set hk (resumed legal paused))
  · exact exec_refused rfl taken (by simp)
      (playbackRequest_refused hk (resumePlayback_refused (by rwa [same])) (by decide))

/-- Settles O32, by the state of the playback. -/
theorem releasePauseAndResumeActOnTheFade : Obligations.ReleasePauseAndResumeActOnTheFade :=
  ⟨releaseFadesToZero, pauseAndResumeKeepTheFade⟩

/-! ### O33: lists and settings (R37 to R41) -/

section
variable {k : Fin 6} {list : Byte} {l : Fin 8} {s : State}

theorem loadListPlayback_noSuch (hl : number 8 list.toNat = none) :
    loadListPlayback k list s = (s, .noSuch) := by
  simp only [loadListPlayback, hl]

theorem loadListPlayback_atRest (hl : number 8 list.toNat = some l)
    (atRest : (s.playbacks.get k).state = .empty ∨ (s.playbacks.get k).state = .idle) :
    loadListPlayback k list s =
      (s.setPlayback k { s.playbacks.get k with loaded := some l, current := none, state := .idle, clock := 0 },
        .done) := by
  simp only [loadListPlayback, hl, if_pos atRest]

theorem loadListPlayback_refused (hl : number 8 list.toNat = some l)
    (running : ¬((s.playbacks.get k).state = .empty ∨ (s.playbacks.get k).state = .idle)) :
    loadListPlayback k list s = (s, .wrongState) := by
  simp only [loadListPlayback, hl, if_neg running]

theorem unloadPlayback_empty (h : (s.playbacks.get k).state = .empty) : unloadPlayback k s = (s, .done) := by
  simp only [unloadPlayback, if_pos h]

theorem unloadPlayback_idle (h : (s.playbacks.get k).state = .idle) :
    unloadPlayback k s =
      (s.setPlayback k { s.playbacks.get k with
        records := Table.fill 768 .cleared, loaded := none, current := none, follow := none, clock := 0,
        state := .empty }, .done) := by
  simp only [unloadPlayback, h, reduceCtorEq, if_false, if_true]

theorem unloadPlayback_refused
    (running : ¬((s.playbacks.get k).state = .empty ∨ (s.playbacks.get k).state = .idle)) :
    unloadPlayback k s = (s, .wrongState) := by
  rw [not_or] at running
  simp only [unloadPlayback, if_neg running.1, if_neg running.2]

end

theorem loadAndUnloadAList : Clause.LoadAndUnloadAList := by
  intro d tag p list k l s hk pb atRest legal
  have same : ∀ r, (begun d tag r s).playbacks.get k = pb := fun r => by rw [begun_playbacks]
  refine ⟨fun taken hl => ⟨fun rests => ?_, fun running => ?_⟩, fun taken missing => ?_,
    fun taken => ⟨fun empty => ?_, fun idle => ?_, fun running => ?_⟩⟩
  · have loaded := loadListPlayback_atRest (k := k) (s := begun d tag (.loadList p list) s) hl
    rw [same] at loaded
    exact exec_done rfl taken (by simp) (playbackRequest_set hk (loaded rests))
  · exact exec_refused rfl taken (by simp)
      (playbackRequest_refused hk (loadListPlayback_refused hl (by rwa [same])) (by decide))
  · exact exec_refused rfl taken (by simp)
      (playbackRequest_refused hk (loadListPlayback_noSuch (number_eq_none.mpr missing)) (by decide))
  · rw [← same (.unload p)]
    exact exec_done rfl taken (by simp) (playbackRequest_done hk (unloadPlayback_empty (by rwa [same])))
  · have unloaded := unloadPlayback_idle (k := k) (s := begun d tag (.unload p) s)
    rw [same] at unloaded
    exact exec_done rfl taken (by simp) (playbackRequest_set hk (unloaded idle))
  · exact exec_refused rfl taken (by simp)
      (playbackRequest_refused hk (unloadPlayback_refused (by rwa [same])) (by decide))

theorem clamp_rate (x : Nat) : clamp 25 400 x = if x < 25 then 25 else if 400 < x then 400 else x := by
  split
  · exact clamp_of_lt (by assumption)
  · split
    · exact clamp_of_gt (by assumption) (by decide)
    · exact clamp_of_mem (by omega) (by omega)

theorem setTimesPlayback_inRange {k : Fin 6} {x y : Half} {s : State} (h : x.toNat ≤ 6000 ∧ y.toNat ≤ 6000) :
    setTimesPlayback k x y s =
      (s.setPlayback k { s.playbacks.get k with releaseTime := x.toNat, backTime := y.toNat }, .done) := by
  have inRange : ¬(Config.maxTenths < x.toNat ∨ Config.maxTenths < y.toNat) := by
    simp only [Config.maxTenths]
    omega
  simp only [setTimesPlayback, if_neg inRange]

theorem setTimesPlayback_outOfRange {k : Fin 6} {x y : Half} {s : State}
    (h : 6000 < x.toNat ∨ 6000 < y.toNat) : setTimesPlayback k x y s = (s, .outOfRange) := if_pos h

theorem playbackSettingsChangeAlone : Clause.PlaybackSettingsChangeAlone := by
  intro d tag p k s hk pb
  have same : ∀ r, (begun d tag r s).playbacks.get k = pb := fun r => by rw [begun_playbacks]
  refine ⟨fun master taken => ?_, fun rate taken => ?_, fun x y taken =>
    ⟨fun inRange => ?_, fun out => ?_⟩⟩
  · rw [← same (.setMaster p master)]
    exact exec_done rfl taken (by simp) (playbackRequest_set hk rfl)
  · rw [← same (.setRate p rate)]
    refine exec_done rfl taken (by simp) ?_
    simp only [perform, ownerSetRate, hk, setRatePlayback, State.setPlayback_playbacks, Table.get_set_self,
      clamp_rate]
    rfl
  · rw [← same (.setPlaybackTimes p x y)]
    exact exec_done rfl taken (by simp) (playbackRequest_set hk (setTimesPlayback_inRange inRange))
  · exact exec_refused rfl taken (by simp)
      (playbackRequest_refused hk (setTimesPlayback_outOfRange out) (by decide))

/-- Settles O33, request by request. -/
theorem playbackListsAndSettingsAreTaken : Obligations.PlaybackListsAndSettingsAreTaken :=
  ⟨loadAndUnloadAList, playbackSettingsChangeAlone⟩

/-! ### O45: tasks (R44, R138, R144, R145) -/

/-- A task that is not refused leaves what its request leaves (R144). -/
theorem taskTaken_eq {r : Fin 16} {u : State} {x : Result} {act : State × Result} (h : act = (u, x))
    (hx : x ≠ .wrongState) : taskTaken r act = u := by
  rw [h]
  exact if_neg hx

/-- A task whose request is in the wrong state is reported refused (R145). -/
theorem taskTaken_refused {r : Fin 16} {s : State} {act : State × Result} (h : act = (s, .wrongState)) :
    taskTaken r act = s.report ⟨.taskRefused, numbered r, 2⟩ := by
  rw [h]
  rfl

theorem playbackTasksActAsRequests : Clause.PlaybackTasksActAsRequests := by
  intro x k u pb takes refused legal
  refine ⟨fun empty => taskTaken_refused (goPlayback_empty empty), fun l hl => ⟨fun next => ?_,
      fun c next sorted limit => ⟨cueMoves pb.clock c pb.records, cueMoves_set sorted pb.clock pb.records, ?_⟩⟩,
    fun runs => taskTaken_eq (pausePlayback_runs runs) (by decide),
    fun fading waiting => taskTaken_refused (pausePlayback_refused fading waiting),
    fun paused => taskTaken_eq (resumePlayback_paused legal paused) (by decide),
    fun notPaused => taskTaken_refused (resumePlayback_refused notPaused),
    fun empty => taskTaken_eq (releasePlayback_empty empty) (by decide),
    fun notEmpty => ⟨releaseMoves pb, fun ch => moveAll_get ..,
      taskTaken_eq (releasePlayback_taken legal notEmpty) (by decide)⟩⟩
  · exact taskTaken_eq (goPlayback_end legal hl next) (by decide)
  · exact taskTaken_eq (goPlayback_next legal hl next limit) (by decide)

theorem clockTask_stopAtMatch {x : Fin 16} {c : Fin 3} {u : State}
    (h : (u.triggers.clocks.get c).state ≠ .stopped) :
    clockTask x c .stopAtMatch u = u.setClock c { u.triggers.clocks.get c with state := .stopping } := by
  unfold clockTask CueClock.act
  cases hs : (u.triggers.clocks.get c).state
  · exact absurd hs h
  · rfl
  · rfl

theorem clockTask_stopAtMatch_stopped {x : Fin 16} {c : Fin 3} {u : State}
    (h : (u.triggers.clocks.get c).state = .stopped) :
    clockTask x c .stopAtMatch u = u.report ⟨.taskRefused, numbered x, 2⟩ := by
  simp only [clockTask, CueClock.act, h]
  rfl

theorem swapNow_staged {x : Fin 16} {u : State} {y : Staged} (h : u.level.staged = some y) :
    swapNow x u = u.setStaged (some { y with due := true }) := by
  simp only [swapNow, h]

theorem swapNow_nothing {x : Fin 16} {u : State} (h : u.level.staged = none) :
    swapNow x u = u.report ⟨.taskRefused, numbered x, 3⟩ := by
  simp only [swapNow, h]
  rfl

theorem otherTasksActAsRequests : Clause.OtherTasksActAsRequests := by
  intro x u takes
  exact ⟨fun c => ⟨rfl, rfl, rfl, clockTask_stopAtMatch, clockTask_stopAtMatch_stopped⟩, rfl, rfl,
    fun y => swapNow_staged, swapNow_nothing, fun task => by cases task <;> rfl⟩

/-- Settles O45, task by task. -/
theorem tasksActAsTheirRequests : Obligations.TasksActAsTheirRequests :=
  ⟨playbackTasksActAsRequests, otherTasksActAsRequests⟩

end Sys2Proof.Machine
end

section
/-! PROOFS. O7 and O50: requests that name a missing item, and the reads that answer from the last completed scan
(R24, R43, R84, R119, R157, R161). -/

namespace Sys2Proof.Machine

/-! ### O7: items that do not exist (R157) -/

theorem playbackRequest_missing {n : Byte} (h : number 6 n.toNat = none) (s : State)
    (take : Fin 6 → State × Result) : playbackRequest n s take = refuse s .noSuch := by
  simp only [playbackRequest, h]

/-- The owner of a request that names a missing item looks for the item first. -/
theorem perform_missing {r : Request} (h : r.namesMissingItem = true) (s : State) :
    perform r s = refuse s .noSuch := by
  cases r with
  | go | goto | back | pause | resume | release | loadList | unload | setMaster | setPlaybackTimes =>
    exact playbackRequest_missing (Option.isNone_iff_eq_none.mp h) s _
  | setRate | readPlayback | writeCue | deleteCue | clearList | readCue | setCircuit | clearBank | selectBank
  | readBankEntry | loadLaw | readLaw | setDesk | readDesk | setLink | setContact | setClock | clockAction
  | setWatch | setRoute =>
    have missing := Option.isNone_iff_eq_none.mp h
    simp only [perform, ownerSetRate, ownerReadPlayback, ownerWriteCue, ownerDeleteCue, ownerClearList,
      ownerReadCue, ownerSetCircuit, ownerClearBank, ownerSelectBank, ownerReadBankEntry, ownerLoadLaw,
      ownerReadLaw, ownerSetDesk, ownerReadDesk, ownerSetLink, ownerSetContact, ownerSetClock,
      ownerClockAction, ownerSetWatch, ownerSetRoute, missing]
  | copyBank source destination =>
    simp only [Request.namesMissingItem, Bool.or_eq_true, Option.isNone_iff_eq_none] at h
    simp only [perform, ownerCopyBank]
    split
    · simp_all
    · rfl
  | _ => cases h

theorem missingItemIsNoSuch : Clause.MissingItemIsNoSuch := by
  intro i d tag r s row taken missing
  refine exec_refused row taken ?_ (perform_missing missing _)
  rintro rfl
  cases missing

theorem index_eq_some {n k : Nat} {x : Fin n} : index n k = some x ↔ k = x.val := by
  simp only [index, Option.dite_none_right_eq_some, Option.some.injEq, Fin.ext_iff]
  exact ⟨fun ⟨_, e⟩ => e, fun e => ⟨e ▸ x.isLt, e⟩⟩

/-- Settles O7, by the first check of each owner. -/
theorem missingItemsAreRefusedNoSuch : Obligations.MissingItemsAreRefusedNoSuch :=
  ⟨missingItemIsNoSuch, fun _ _ _ => number_eq_some, fun _ _ => rfl, fun _ _ _ => index_eq_some, rfl, rfl,
    fun _ _ => deskOfCode_eq_some⟩

/-! ### O50: the reads of the scan (R43, R84, R119) -/

/-- A value of two bytes that may be absent, with its byte of presence (assumption 13). -/
theorem bOpt_b2 (x : Option Nat) :
    bOpt b2 0 x = match x with
      | some v => 1 :: b2 v
      | none => [0, 0, 0] := by
  cases x <;> rfl

theorem present_bytes (x : DeskPresent) (ch : Fin 768) :
    bOpt b2 0 (x.value ch) = if x.contributed then 1 :: b2 (x.levels.get ch) else [0, 0, 0] := by
  unfold DeskPresent.value
  split <;> rfl

theorem ownerReadChannel_outOfRange {channel : Half} (h : channel = 0 ∨ 768 < channel.toNat) (s : State) :
    ownerReadChannel channel s = refuse s .outOfRange := by
  have missing : number 768 channel.toNat = none := number_eq_none.mpr (h.imp (fun e => by rw [e]; rfl) id)
  simp only [ownerReadChannel, missing]

theorem ownerReadChannel_answer {channel : Half} {ch : Fin 768} (h : channel.toNat = numbered ch) (s : State) :
    ownerReadChannel channel s =
      ⟨s, .done, quadBytes s.level.last.start ++ bOpt b2 0 (s.level.last.deskA.value ch) ++
        bOpt b2 0 (s.level.last.deskB.value ch) ++ bYes s.level.last.deskA.scaled ++
        bYes s.level.last.deskB.scaled ++ (s.level.last.contributions.rows.flatMap fun t => b2 (t.get ch)) ++
        b2 (s.level.last.merged.get ch) ++ [s.level.last.grandMaster] ++ bYes s.level.last.blackout ++
        b2 (s.level.last.levels.get ch)⟩ := by
  simp only [ownerReadChannel, h, number_numbered]

section
variable {circuit : Half} {s : State}

theorem ownerReadCircuit_outOfRange (h : 1536 < circuit.toNat) :
    ownerReadCircuit circuit s = refuse s .outOfRange := by
  have notZero : circuit.toNat ≠ 0 := by omega
  simp only [ownerReadCircuit, if_neg notZero, number_eq_none.mpr (.inr h)]

theorem ownerReadCircuit_zero :
    ownerReadCircuit 0 s =
      ⟨s, .done, b1 s.patch.parks.length ++
        (s.patch.parks.flatMap fun x => b2 (numbered x.circuit) ++ [x.level]) ++
        b2 (s.level.last.circuits.count (·.switchOn)) ++ bYes s.level.last.dark⟩ := by
  have zero : (0 : Half).toNat = 0 := rfl
  simp only [ownerReadCircuit, zero, if_true]

theorem ownerReadCircuit_answer {k : Fin 1536} (h : circuit.toNat = numbered k) :
    ownerReadCircuit circuit s = ⟨s, .done, circuitBytes s k⟩ := by
  have notZero : numbered k ≠ 0 := Nat.ne_of_gt (numbered_pos k)
  simp only [ownerReadCircuit, h, if_neg notZero, number_numbered]

end

section
variable {playback : Byte} {channel : Half} {p : Fin 6} {s : State}

theorem ownerReadPlayback_outOfRange (hp : number 6 playback.toNat = some p) (h : 768 < channel.toNat) :
    ownerReadPlayback playback channel s = refuse s .outOfRange := by
  have notZero : channel.toNat ≠ 0 := by omega
  simp only [ownerReadPlayback, hp, if_neg notZero, number_eq_none.mpr (.inr h)]

theorem ownerReadPlayback_zero (hp : number 6 playback.toNat = some p) :
    ownerReadPlayback playback 0 s = ⟨s, .done, playbackItems ((playbacksSeen s).get p)⟩ := by
  have zero : (0 : Half).toNat = 0 := rfl
  simp only [ownerReadPlayback, hp, zero, if_true]

theorem ownerReadPlayback_answer (hp : number 6 playback.toNat = some p) {ch : Fin 768}
    (h : channel.toNat = numbered ch) :
    ownerReadPlayback playback channel s =
      ⟨s, .done, playbackItems ((playbacksSeen s).get p) ++
        recordBytes (((playbacksSeen s).get p).records.get ch)⟩ := by
  have notZero : numbered ch ≠ 0 := Nat.ne_of_gt (numbered_pos ch)
  simp only [ownerReadPlayback, hp, h, if_neg notZero, number_numbered]

end

/-- What a READ PLAYBACK is answered from (R43, assumption 16). -/
theorem playbacksSeen_begun (d : Desk) (tag : Byte) (r : Request) (s : State) (p : Fin 6) :
    (playbacksSeen (begun d tag r s)).get p =
      if s.level.phase = .computing then s.level.beforeScan.get p else s.playbacks.get p := by
  unfold playbacksSeen
  rw [begun_level, begun_playbacks]
  cases s.level.phase <;> rfl

/-- Settles O50, read by read. -/
theorem readsOfTheScanAnswer : Obligations.ReadsOfTheScanAnswer := by
  intro d tag s scan
  refine ⟨fun channel taken => ⟨fun out => ?_, fun c hc => ?_⟩,
    fun circuit taken => ⟨fun high => ?_, ?_, fun k hk => ?_⟩,
    fun playback channel p taken hp => ⟨fun high => ?_, ?_, fun c hc => ?_⟩⟩
  · exact exec_refused rfl taken (by simp) (ownerReadChannel_outOfRange out _)
  · refine exec_done rfl taken (by simp) ?_
    rw [perform, ownerReadChannel_answer hc]
    simp only [present_bytes, begun_level, scan]
  · exact exec_refused rfl taken (by simp) (ownerReadCircuit_outOfRange high)
  · rintro rfl
    refine exec_done rfl taken (by simp) ?_
    rw [perform, ownerReadCircuit_zero, begun_patch, begun_level]
  · refine exec_done rfl taken (by simp) ?_
    rw [perform, ownerReadCircuit_answer hk, circuitBytes, begun_patch, begun_level]
    simp only [bOpt_b2]
    cases ((s.patch.banks.get scan.bank).get k).source <;> rfl
  · exact exec_refused rfl taken (by simp) (ownerReadPlayback_outOfRange hp high)
  · rintro rfl
    refine exec_done rfl taken (by simp) ?_
    rw [perform, ownerReadPlayback_zero hp, playbacksSeen_begun]
    rfl
  · refine exec_done rfl taken (by simp) ?_
    rw [perform, ownerReadPlayback_answer hp hc, playbacksSeen_begun]
    rfl

end Sys2Proof.Machine
end

section
/-! PROOFS. O15 and O16: what a scan start does, what its latch copies, and the values it computes (R42, R57, R63,
R67 to R75, R83, R90). -/

namespace Sys2Proof.Machine

/-! ### The state a scan start leaves -/

theorem exec_scanStart {s : State} (phase : s.level.phase = .waiting) (timer : s.level.timer = 0) :
    exec .scanStart s = .next s.scanStarted := by
  have due : scanIsDue s = true := by simp [scanIsDue, phase, timer]
  have started : exec .scanStart s = .next (scanStartIfDue s) := rfl
  rw [started, scanStartIfDue, if_pos due, scanStart_eq]

section
variable {s : State} {x : Staged}

theorem State.swapDue_eq (h : s.level.staged = some x) : s.swapDue = x.due := by
  simp only [State.swapDue, h, Option.any_some]

theorem State.swapDue_none (h : s.level.staged = none) : s.swapDue = false := by
  simp only [State.swapDue, h, Option.any_none]

theorem State.scanBank_due (h : s.level.staged = some x) (due : x.due = true) : s.scanBank = x.target := by
  simp only [State.scanBank, h, due, if_true]

theorem State.scanBank_notDue (h : s.level.staged = some x) (due : x.due = false) :
    s.scanBank = s.level.activeBank := by
  simp only [State.scanBank, h, due, Bool.false_eq_true, if_false]

theorem State.scanBank_none (h : s.level.staged = none) : s.scanBank = s.level.activeBank := by
  simp only [State.scanBank, h]

/-- Of a staged swap that is not due only the due mark may change, by an automatic GO of its playback (R69). -/
theorem Staged.afterGos_notDue (took : Fin 6 → Bool) (due : x.due = false) :
    x.afterGos took (List.finRange 6) =
      { x with due := decide (∃ p, x.method = .atGo p ∧ took p = true) } := by
  have marks : ((List.finRange 6).any fun p => took p && decide (x.method = .atGo p)) =
      decide (∃ p, x.method = .atGo p ∧ took p = true) := by
    rw [Bool.eq_iff_iff, decide_eq_true_iff]
    simp [and_comm]
  rw [Staged.afterGos, marks, due, Bool.false_or]

end

theorem scanStartDoesItsSteps : Clause.ScanStartDoesItsSteps := by
  intro s phase timer works
  refine ⟨s.scanStarted, exec_scanStart phase timer, ?_⟩
  unfold State.scanStarted
  refine ⟨rfl, rfl, rfl, fun x hx due => ?_, fun x hx due => ?_, fun hx => ?_, rfl, fun r => Table.get_map ..,
    fun p => Table.get_tab .., rfl, rfl, rfl, rfl, rfl, rfl, rfl, rfl, rfl, rfl, rfl, rfl, rfl, rfl, rfl, rfl,
    rfl, rfl, rfl, rfl, rfl, rfl, rfl⟩
  · simp only [State.swapDue_eq hx, due, if_true, State.scanBank_due hx due, and_self]
  · simp only [State.swapDue_eq hx, due, Bool.false_eq_true, if_false, State.scanBank_notDue hx due, true_and]
    rw [hx, Option.map_some, Staged.afterGos_notDue _ due]
    rfl
  · simp only [State.swapDue_none hx, Bool.false_eq_true, if_false, State.scanBank_none hx, hx, Option.map_none,
      and_self]

/-! ### The latch (R63, R72) -/

theorem Monitor.latch_contributes (m : Monitor) (now : Time) :
    (m.latch now).contributes = true ↔ m.state ≠ .absent ∧ m.settings.merge = .htp := by
  simp [Monitor.latch]

theorem Monitor.latch_fade (m : Monitor) (now : Time) (e t : Nat) :
    (m.latch now).fade = some (e, t) ↔
      m.fadeRunning = true ∧ ∃ z, m.loss = some z ∧ e = elapsed now z.moment ∧ t = z.fadeTime := by
  unfold Monitor.latch
  cases m.fadeRunning <;> cases m.loss <;> simp [eq_comm]

theorem theLatchCopiesItsInputs : Clause.TheLatchCopiesItsInputs := by
  intro s length x
  refine ⟨rfl, rfl, rfl, fun p => Table.get_map .., fun d => ?_⟩
  cases d <;>
    exact ⟨Monitor.latch_contributes _ s.showClock, rfl, Monitor.latch_fade _ s.showClock⟩

/-- Settles O15: a scan start is one write of the state, and its latch reads it field by field. -/
theorem scanStartLatchesAndRunsThePlaybacks : Obligations.ScanStartLatchesAndRunsThePlaybacks :=
  ⟨scanStartDoesItsSteps, theLatchCopiesItsInputs⟩

/-! ### What the desks present (R57, R63, R73) -/

/-- The value a desk monitor presents to a scan for a channel. -/
def Monitor.presented (m : Monitor) (now : Time) (c : Fin 768) : Nat :=
  if m.state = .absent ∨ m.settings.merge = .off then 0
  else match m.fadeRunning, m.loss with
    | true, some x => fadedLevel (elapsed now x.moment) x.fadeTime (m.live.get c)
    | _, _ => m.live.get c

theorem DeskLatch.present_contributed (x : DeskLatch) : x.present.contributed = x.contributes := by
  unfold DeskLatch.present
  split
  · rename_i h
    split <;> exact h.symm
  · rename_i h
    simp [h]

theorem DeskLatch.present_scaled (x : DeskLatch) :
    x.present.scaled = true ↔ x.contributes = true ∧ x.fade.isSome = true := by
  unfold DeskLatch.present
  cases x.contributes <;> cases x.fade <;> simp

theorem Monitor.latch_fade_isSome (m : Monitor) (now : Time) :
    (m.latch now).fade.isSome = true ↔ m.fadeRunning = true ∧ m.loss.isSome = true := by
  unfold Monitor.latch
  cases m.fadeRunning <;> cases m.loss <;> simp

theorem Monitor.not_contributes_iff {m : Monitor} {now : Time} :
    (m.latch now).contributes = false ↔ m.state = .absent ∨ m.settings.merge = .off := by
  rw [← Bool.not_eq_true, Monitor.latch_contributes, not_and_or, not_not]
  cases m.settings.merge <;> simp

theorem Monitor.latch_present_get (m : Monitor) (now : Time) (c : Fin 768) :
    (m.latch now).present.levels.get c = m.presented now c := by
  by_cases absent : m.state = .absent ∨ m.settings.merge = .off
  · rw [Monitor.presented, if_pos absent, DeskLatch.present, Monitor.not_contributes_iff.mpr absent]
    exact Table.get_fill ..
  · have contributes : (m.latch now).contributes = true := by
      rw [← Bool.not_eq_false, Monitor.not_contributes_iff]
      exact absent
    rw [Monitor.presented, if_neg absent, DeskLatch.present, if_pos contributes]
    unfold Monitor.latch
    cases m.fadeRunning <;> cases m.loss <;> simp

/-! ### O16: the values of a scan (R42, R73 to R75, R90) -/

theorem State.scanValues_contribution (s : State) (p : Fin 6) (c : Fin 768) :
    (s.scanValues.contributions.get p).get c =
      scaleBy (s.playbacks.get p).master ((s.works p).1.records.get c).level := by
  simp only [State.scanValues, computeScan, contributionsOf, State.latchInputs, Table.get_zip, Table.get_map,
    Table.get_tab, Playback.contribution_get]

theorem State.scanSwitches_get (s : State) (k : Fin 1536) :
    s.scanSwitches.get k = if s.swapDue then false else s.patch.switches.get k := by
  unfold State.scanSwitches
  split
  · exact Table.get_fill ..
  · rfl

theorem State.scanValues_circuit (s : State) (k : Fin 1536) :
    s.scanValues.circuits.get k =
      outputStep s.patch.laws s.patch.parks k ((s.patch.banks.get s.scanBank).get k)
        (if s.swapDue then false else s.patch.switches.get k)
        (((s.patch.banks.get s.scanBank).get k).intensity s.scanValues.levels) := by
  rw [← State.scanSwitches_get]
  exact circuitStep_get ..

/-- Settles O16: each value of the scan, from the state that a scan start leaves. -/
theorem scanValuesAreTheMergeThroughThePatch : Obligations.ScanValuesAreTheMergeThroughThePatch := by
  intro s t phase timer started contributes presented contribution swapped kept
  obtain rfl : s.scanStarted = t := by
    rw [exec_scanStart phase timer] at started
    cases started
    rfl
  have desks : ∀ d, kept d = ((s.desk d).monitor.latch s.showClock).present := fun d => by cases d <;> rfl
  have swap : swapped = s.swapDue := by
    simp only [swapped, State.swapDue]
    cases s.level.staged <;> rfl
  have levels : ∀ d c, (kept d).levels.get c = presented d c := fun d c => by
    rw [desks]
    exact Monitor.latch_present_get _ s.showClock c
  have contributed : ∀ p c, (s.scanValues.contributions.get p).get c = contribution p c := fun p c => by
    rw [State.scanValues_contribution]
    simp only [contribution, State.scanStarted, Table.get_tab, scaleBy]
  refine ⟨rfl, rfl, rfl, rfl, fun d => ⟨?_, ?_, levels d⟩, contributed, fun c => ⟨?_, ?_, ?_⟩, fun k => ⟨?_, ?_⟩⟩
  · rw [desks, DeskLatch.present_contributed]
    exact Monitor.latch_contributes ..
  · rw [desks, DeskLatch.present_scaled, Monitor.latch_contributes, Monitor.latch_fade_isSome]
  · obtain ⟨a, b, ps⟩ := mergeAll_le_iff.mp (le_refl (s.scanValues.merged.get c))
    rintro v (rfl | rfl | ⟨p, rfl⟩)
    · exact levels .A c ▸ a
    · exact levels .B c ▸ b
    · exact contributed p c ▸ ps p
  · obtain a | b | ⟨p, hp⟩ := mergeAll_mem s.scanValues.deskA s.scanValues.deskB s.scanValues.contributions c
    · exact .inl (a.trans (levels .A c))
    · exact .inr (.inl (b.trans (levels .B c)))
    · exact .inr (.inr ⟨p, hp.trans (contributed p c)⟩)
  · exact channelLevels_get ..
  · rw [swap]
    exact State.scanValues_circuit s k
  · exact Table.get_map ..

end Sys2Proof.Machine
end

section
/-! PROOFS. An invariant that each write of a task keeps is kept by every event, by every task taken, and by
every request to a playback (R24, R143, R144). -/

namespace Sys2Proof.Machine

/-- The writes that a task or a raised event is made of, each keeping a predicate: a report, a playback, a cue
clock, a route, and of the level processor the staged swap, the held-request list and the blackout. -/
structure KeptByTaskWrites (P : State → Prop) : Prop where
  report : ∀ e s, P s → P (s.report e)
  playback : ∀ p pb s, P s → P (s.setPlayback p pb)
  clock : ∀ c x s, P s → P (s.setClock c x)
  route : ∀ r x s, P s → P (s.setRoute r x)
  level : ∀ staged held on s, P s →
    P { s with level := { s.level with staged := staged, held := held, blackout := on } }

section
variable {P : State → Prop} {raise : Event → State → State}

theorem KeptByTaskWrites.goTaken (h : KeptByTaskWrites P) (p : Fin 6) {s : State} (hs : P s) :
    P (s.goTaken p) := by
  obtain k | ⟨x, -, k⟩ := goTaken_cases p s <;> rw [k]
  · exact hs
  · exact h.level _ _ _ _ hs

theorem KeptByTaskWrites.applyMoved (h : KeptByTaskWrites P) (hr : ∀ e s, P s → P (raise e s)) (p : Fin 6)
    (m : Moved) {s : State} (hs : P s) : P (applyMoved raise p m s) := by
  have set := h.playback p m.playback s hs
  unfold Machine.applyMoved
  refine raiseAll_keeps hr m.events ?_
  split
  · exact h.goTaken p set
  · exact set

theorem KeptByTaskWrites.goPlayback (h : KeptByTaskWrites P) (hr : ∀ e s, P s → P (raise e s)) (p : Fin 6)
    {s : State} (hs : P s) : P (goPlayback raise p s).1 := by
  obtain ⟨x, k⟩ | ⟨m, x, k⟩ := goPlayback_cases raise p s <;> rw [k]
  · exact hs
  · exact h.applyMoved hr p m hs

theorem KeptByTaskWrites.pausePlayback (h : KeptByTaskWrites P) (p : Fin 6) {s : State} (hs : P s) :
    P (pausePlayback p s).1 := by
  obtain ⟨x, k⟩ | ⟨pb, x, k⟩ := pausePlayback_cases p s <;> rw [k]
  · exact hs
  · exact h.playback p pb s hs

theorem KeptByTaskWrites.resumePlayback (h : KeptByTaskWrites P) (p : Fin 6) {s : State} (hs : P s) :
    P (resumePlayback p s).1 := by
  obtain ⟨x, k⟩ | ⟨pb, x, k⟩ := resumePlayback_cases p s <;> rw [k]
  · exact hs
  · exact h.playback p pb s hs

theorem KeptByTaskWrites.releasePlayback (h : KeptByTaskWrites P) (p : Fin 6) {s : State} (hs : P s) :
    P (releasePlayback p s).1 := by
  obtain ⟨x, k⟩ | ⟨pb, x, k⟩ := releasePlayback_cases p s <;> rw [k]
  · exact hs
  · exact h.playback p pb s hs

theorem KeptByTaskWrites.takeTask (h : KeptByTaskWrites P) (hr : ∀ e s, P s → P (raise e s)) (r : Fin 16)
    (t : Task) {s : State} (hs : P s) : P (takeTask raise r t s) := by
  have taken : ∀ {x : State × Result}, P x.1 → P (taskTaken r x) := by
    intro x k
    unfold taskTaken
    split
    · exact h.report _ _ k
    · exact k
  have clock : ∀ c a, P (clockTask r c a s) := by
    intro c a
    unfold clockTask
    split
    · exact h.clock _ _ _ hs
    · exact h.report _ _ hs
  match t with
  | .go p => exact taken (h.goPlayback hr p hs)
  | .pause p => exact taken (h.pausePlayback p hs)
  | .resume p => exact taken (h.resumePlayback p hs)
  | .release p => exact taken (h.releasePlayback p hs)
  | .start c => exact clock c .start
  | .continue c => exact clock c .continue
  | .stop c => exact clock c .stop
  | .stopAtMatch c => exact clock c .stopAtMatch
  | .blackoutOn => exact h.level _ _ _ _ hs
  | .blackoutOff => exact h.level _ _ _ _ hs
  | .swapNow =>
    simp only [Machine.takeTask, swapNow]
    split
    · exact h.level _ _ _ _ hs
    · exact h.report _ _ hs

/-- An event, with every task that it sets off, keeps what the writes of a task keep. -/
theorem KeptByTaskWrites.raiseEvent (h : KeptByTaskWrites P) (e : Event) {s : State} (hs : P s) :
    P (raiseEvent e s) := by
  refine raiseWithin_keeps h.report (fun raise hr r s k _ => ?_) _ e s hs
  have marked := h.route r { s.triggers.routes.get r with holdoff := true } s k
  unfold issueTask
  split
  · exact h.level _ _ _ _ marked
  · exact h.takeTask hr r _ marked

theorem KeptByTaskWrites.raiseAll (h : KeptByTaskWrites P) (es : List Event) {s : State} (hs : P s) :
    P (raiseAll Machine.raiseEvent es s) := raiseAll_keeps (fun e _ k => h.raiseEvent e k) es hs

/-- A request to a playback keeps what the writes of a task keep (R24). -/
theorem KeptByTaskWrites.playbackOwner (h : KeptByTaskWrites P) {r : Request} (hr : r.onPlayback = true)
    {s : State} (hs : P s) : P (perform r s).state := by
  have raise := fun e s (k : P s) => h.raiseEvent e k
  have set := fun p pb => h.playback p pb s hs
  have request : ∀ {n : Byte} {take : Fin 6 → State × Result}, (∀ p, P (take p).1) →
      P (playbackRequest n s take).state := by
    intro n take k
    unfold playbackRequest
    split
    · exact hs
    · exact k _
  cases r with
  | go p => exact request fun p => h.goPlayback raise p hs
  | goto p cue ovr =>
    refine request fun p => ?_
    obtain ⟨x, k⟩ | ⟨m, x, k⟩ := gotoPlayback_cases Machine.raiseEvent p cue ovr s <;> rw [k]
    · exact hs
    · exact h.applyMoved raise p m hs
  | back p =>
    refine request fun p => ?_
    obtain ⟨x, k⟩ | ⟨m, x, k⟩ := backPlayback_cases Machine.raiseEvent p s <;> rw [k]
    · exact hs
    · exact h.applyMoved raise p m hs
  | pause p => exact request fun p => h.pausePlayback p hs
  | resume p => exact request fun p => h.resumePlayback p hs
  | release p => exact request fun p => h.releasePlayback p hs
  | loadList p list =>
    refine request fun p => ?_
    simp only [loadListPlayback]
    (repeat' split) <;> first | exact hs | exact set p _
  | unload p =>
    refine request fun p => ?_
    simp only [unloadPlayback]
    (repeat' split) <;> first | exact hs | exact set p _
  | setMaster p x => exact request fun p => set p _
  | setRate p x =>
    simp only [Machine.perform, ownerSetRate]
    split
    · exact hs
    · exact set _ _
  | setPlaybackTimes p x y =>
    refine request fun p => ?_
    simp only [setTimesPlayback]
    split
    · exact hs
    · exact set p _
  | _ => cases hr

end

end Sys2Proof.Machine
end

section
/-! PROOFS. O56: every step keeps the settings and counts in their ranges. The writes of a desk monitor, of the
laws, of the park list, of the scan period and of the report queue each keep their own range (R48, R54, R56,
R61, R67, R105, R115, R165). -/

namespace Sys2Proof.Machine

/-! ### The park list (R115, R116) -/

/-- A park list in strictly ascending circuit (R115). -/
def ParksAscending (parks : List Park) : Prop := parks.Pairwise fun a b => a.circuit < b.circuit

theorem mem_putPark {x z : Park} {parks : List Park} (h : z ∈ putPark x parks) : z = x ∨ z ∈ parks := by
  induction parks with
  | nil => exact .inl (List.mem_singleton.mp h)
  | cons y ys ih =>
    unfold putPark at h
    split at h
    · exact List.mem_cons.mp h
    · split at h
      · obtain rfl | h := List.mem_cons.mp h
        · exact .inl rfl
        · exact .inr (List.mem_cons_of_mem y h)
      · obtain rfl | h := List.mem_cons.mp h
        · exact .inr List.mem_cons_self
        · exact (ih h).imp_right (List.mem_cons_of_mem y)

theorem ParksAscending.putPark {parks : List Park} (h : ParksAscending parks) (x : Park) :
    ParksAscending (putPark x parks) := by
  induction parks with
  | nil => exact List.pairwise_singleton _ x
  | cons y ys ih =>
    obtain ⟨above, rest⟩ := List.pairwise_cons.mp h
    unfold Machine.putPark
    split
    · rename_i below
      refine List.pairwise_cons.mpr ⟨fun z hz => ?_, h⟩
      obtain rfl | hz := List.mem_cons.mp hz
      · exact below
      · exact below.trans (above z hz)
    · rename_i notBelow
      split
      · rename_i same
        exact List.pairwise_cons.mpr ⟨fun z hz => same ▸ above z hz, rest⟩
      · rename_i other
        refine List.pairwise_cons.mpr ⟨fun z hz => ?_, ih rest⟩
        obtain rfl | hz := mem_putPark hz
        · exact lt_of_le_of_ne (not_lt.mp notBelow) (Ne.symm other)
        · exact above z hz

theorem putPark_length_le (x : Park) (parks : List Park) : (putPark x parks).length ≤ parks.length + 1 := by
  induction parks with
  | nil => exact Nat.le_refl 1
  | cons y ys ih =>
    unfold putPark
    (repeat' split) <;> simp only [List.length_cons] <;> omega

/-- A park over an entry of its own circuit makes the list no longer (R116). -/
theorem ParksAscending.putPark_length {parks : List Park} (h : ParksAscending parks) {x y : Park} (hy : y ∈ parks)
    (same : y.circuit = x.circuit) : (Machine.putPark x parks).length = parks.length := by
  induction parks with
  | nil => cases hy
  | cons z zs ih =>
    obtain ⟨above, rest⟩ := List.pairwise_cons.mp h
    unfold Machine.putPark
    obtain rfl | hy := List.mem_cons.mp hy
    · rw [if_neg (by simp [same]), if_pos same.symm]
      rfl
    · have below : z.circuit < x.circuit := same ▸ above y hy
      rw [if_neg below.asymm, if_neg below.ne', List.length_cons, ih rest hy, List.length_cons]

theorem exists_of_parkLevel {parks : List Park} {k : Fin 1536} (h : (parkLevel parks k).isSome = true) :
    ∃ y ∈ parks, y.circuit = k := by
  simp only [parkLevel, Option.isSome_map, List.find?_isSome, beq_iff_eq] at h
  exact h

/-! ### The desk monitors and receivers (R48, R54, R56, R61) -/

/-- One desk monitor as R54, R56 and R61 describe it: its settings in range, Desk A's rights FULL, a last-LEVELS
time exactly when it is not ABSENT, and a loss fade only while LOST. -/
structure Monitor.Legal (d : Desk) (m : Monitor) : Prop where
  rights : d = .A → m.settings.rights = .full
  settings : m.settings.legal
  arrival : m.state = .absent ↔ m.lastLevels = none
  fade : m.fadeRunning = true → m.state = .lost ∧ m.loss.isSome = true

theorem Monitor.afterReset_legal {d : Desk} {x : DeskSettings} (rights : d = .A → x.rights = .full)
    (legal : x.legal) : (Monitor.afterReset x).Legal d :=
  ⟨rights, legal, ⟨fun _ => rfl, fun _ => rfl⟩, nofun⟩

theorem Monitor.writeBack_fadeRunning {m : Monitor} (h : m.fadeRunning = true → m.loss.isSome = true)
    (now : Time) : (m.writeBack now).fadeRunning = false := by
  unfold Monitor.writeBack
  split
  · rfl
  · rename_i other
    refine Bool.eq_false_iff.mpr fun runs => ?_
    obtain ⟨x, hx⟩ := Option.isSome_iff_exists.mp (h runs)
    exact other x runs hx

theorem Monitor.writeBack_settings (m : Monitor) (now : Time) : (m.writeBack now).settings = m.settings := by
  unfold Monitor.writeBack
  split <;> rfl

/-- What an arrival leaves but for the live array and the measured interval (R51, R54, R58). -/
theorem Monitor.arrive_frame (m : Monitor) (base : Nat) (levels : List Byte) (now : Time) :
    (m.arrive base levels now).state = .active ∧ (m.arrive base levels now).lastLevels = some now ∧
      (m.arrive base levels now).fadeRunning = (m.writeBack now).fadeRunning ∧
      (m.arrive base levels now).settings = m.settings := by
  rw [← m.writeBack_settings now]
  unfold Monitor.arrive Monitor.measure
  simp only
  split <;> exact ⟨rfl, rfl, rfl, rfl⟩

theorem Monitor.Legal.arrive {d : Desk} {m : Monitor} (h : m.Legal d) (base : Nat) (levels : List Byte)
    (now : Time) : (m.arrive base levels now).Legal d := by
  obtain ⟨state, last, fade, settings⟩ := m.arrive_frame base levels now
  have still := m.writeBack_fadeRunning (fun runs => (h.fade runs).2) now
  constructor
  · exact settings ▸ h.rights
  · exact settings ▸ h.settings
  · rw [state, last]
    exact ⟨nofun, nofun⟩
  · rw [fade, still]
    exact nofun

/-- The live array that a loss leaves: kept by HOLD and at the start of a fade, cleared otherwise (R56). -/
def Monitor.liveLost (m : Monitor) : Table Nat 768 :=
  if m.settings.lossAction = .hold ∨ (m.settings.lossAction = .fade ∧ 0 < m.settings.lossFadeTime) then m.live
  else Table.fill 768 0

/-- A monitor at its loss, with the captured action applied (R55, R56). -/
theorem Monitor.lose_eq (m : Monitor) (now : Time) :
    m.lose now =
      { m with
        state := .lost
        loss := some ⟨now, m.settings.lossAction, m.settings.lossFadeTime * 100⟩
        live := m.liveLost
        fadeRunning := decide (m.settings.lossAction = .fade ∧ 0 < m.settings.lossFadeTime) } := by
  unfold Monitor.lose Monitor.liveLost
  cases action : m.settings.lossAction with
  | hold => simp
  | drop => simp
  | fade => by_cases runs : 0 < m.settings.lossFadeTime <;> simp [runs]

theorem Monitor.Legal.lose {d : Desk} {m : Monitor} (h : m.Legal d) {now : Time}
    (silent : m.timedOut now = true) : (m.lose now).Legal d := by
  obtain ⟨-, t, arrived, -⟩ := Monitor.timedOut_iff.mp silent
  rw [Monitor.lose_eq]
  refine ⟨h.rights, h.settings, ⟨nofun, fun never => ?_⟩, fun _ => ⟨rfl, rfl⟩⟩
  rw [arrived] at never
  cases never

theorem Receiver.countError_errors_le (r : Receiver) : r.countError.errors ≤ 65535 := Nat.min_le_right ..

/-- A header changes the receiver's state alone (R47). -/
theorem Receiver.header_errors (r : Receiver) (x : Byte) : (r.header x).errors = r.errors := by
  unfold Receiver.header
  split <;> rfl

/-- No character takes the error count past 65,535 (R48). -/
theorem Receiver.take_errors_le {r : Receiver} (h : r.errors ≤ 65535) (x : Character) :
    (r.take x).1.errors ≤ 65535 := by
  have counted := r.countError_errors_le
  unfold Receiver.take
  split
  · exact counted
  · split
    · exact (r.header_errors _).trans_le h
    · exact h
    · exact (r.countError.header_errors _).trans_le counted
    · unfold Receiver.levelsByte
      simp only
      (repeat' split) <;> first | exact h | exact counted
    · unfold Receiver.commandByte
      simp only
      (repeat' split) <;> first | exact h | exact counted

/-! ### What leaves the settings as they are -/

/-- Two states with the same scan period and period in force, the same laws, park list, report queue and show
memory, the scan timer no longer than before. -/
structure SameSettings (s t : State) : Prop where
  period : t.level.period = s.level.period
  inForce : t.level.inForce = s.level.inForce
  timer : t.level.timer ≤ s.level.timer
  laws : t.patch.laws = s.patch.laws
  parks : t.patch.parks = s.patch.parks
  queue : t.reports.queue = s.reports.queue
  memory : t.memory = s.memory

/-- The part of the settings that belongs to one desk. -/
def DesksLegal (s : State) : Prop :=
  ∀ d, (s.desk d).monitor.Legal d ∧ (s.desk d).receiver.errors ≤ 65535

theorem SettingsInv.desksLegal {s : State} (h : SettingsInv s) : DesksLegal s := fun d =>
  ⟨⟨fun hd => by subst hd; exact h.rightsA, (h.desks d).1, h.arrivals d, h.fades d⟩, (h.desks d).2⟩

theorem SettingsInv.of_same {s t : State} (h : SettingsInv s) (desks : DesksLegal t)
    (k : SameSettings s t) : SettingsInv t where
  rightsA := (desks .A).1.rights rfl
  desks d := ⟨(desks d).1.settings, (desks d).2⟩
  arrivals d := (desks d).1.arrival
  fades d := (desks d).1.fade
  period := k.period ▸ h.period
  inForce := by
    rw [k.inForce]
    exact ⟨h.inForce.1, h.inForce.2.1, k.timer.trans h.inForce.2.2⟩
  lawZero := k.laws ▸ h.lawZero
  laws := k.laws ▸ h.laws
  parks := k.parks ▸ h.parks
  queue := k.queue ▸ h.queue
  image := k.memory ▸ h.image

theorem DesksLegal.of_same {s t : State} (h : DesksLegal s)
    (monitor : ∀ d, (t.desk d).monitor = (s.desk d).monitor)
    (errors : ∀ d, (t.desk d).receiver.errors = (s.desk d).receiver.errors) : DesksLegal t := fun d => by
  rw [monitor, errors]
  exact h d

theorem DesksLegal.of_desks {s t : State} (h : DesksLegal s) (a : t.deskA = s.deskA) (b : t.deskB = s.deskB) :
    DesksLegal t := fun d => by
  have same : t.desk d = s.desk d := by cases d <;> simp only [State.desk, a, b]
  rw [same]
  exact h d

/-- A write that touches neither the desks nor the settings. -/
theorem SettingsInv.write {s t : State} (h : SettingsInv s) (a : t.deskA = s.deskA := by rfl)
    (b : t.deskB = s.deskB := by rfl) (period : t.level.period = s.level.period := by rfl)
    (inForce : t.level.inForce = s.level.inForce := by rfl) (timer : t.level.timer = s.level.timer := by rfl)
    (laws : t.patch.laws = s.patch.laws := by rfl) (parks : t.patch.parks = s.patch.parks := by rfl)
    (queue : t.reports.queue = s.reports.queue := by rfl) (memory : t.memory = s.memory := by rfl) :
    SettingsInv t :=
  h.of_same (h.desksLegal.of_desks a b) ⟨period, inForce, timer.le, laws, parks, queue, memory⟩

theorem SettingsInv.setPort {s : State} (h : SettingsInv s) (d : Desk) (p : Port) :
    SettingsInv (s.setPort d p) :=
  h.of_same (h.desksLegal.of_same (by simp) (by simp))
    ⟨by simp, by simp, by simp, by simp, by simp, by simp, by simp⟩

theorem SettingsInv.setMonitor {s : State} (h : SettingsInv s) {d : Desk} {m : Monitor} (hm : m.Legal d) :
    SettingsInv (s.setMonitor d m) := by
  refine h.of_same (fun x => ?_) ⟨by simp, by simp, by simp, by simp, by simp, by simp, by simp⟩
  rw [State.desk_setMonitor]
  split
  · rename_i same
    subst same
    exact ⟨hm, (h.desks x).2⟩
  · exact h.desksLegal x

theorem SettingsInv.setReceiver {s : State} (h : SettingsInv s) (d : Desk) {r : Receiver}
    (hr : r.errors ≤ 65535) : SettingsInv (s.setReceiver d r) := by
  refine h.of_same (fun x => ?_) ⟨by simp, by simp, by simp, by simp, by simp, by simp, by simp⟩
  rw [State.desk_setReceiver]
  split
  · rename_i same
    subst same
    exact ⟨(h.desksLegal x).1, hr⟩
  · exact h.desksLegal x

/-! ### Writes of the laws, the park list, the report queue and the show memory -/

/-- The settings that an image keeps, in their ranges (R170). -/
def Image.SettingsLegal (i : Image) : Prop :=
  i.deskA.legal ∧ i.deskB.legal ∧ (4 ≤ i.period ∧ i.period ≤ 40) ∧ ∀ l : Fin 8, (i.laws.get l).legal

theorem SettingsInv.withPatch {s : State} (h : SettingsInv s) {p : Patch} (zero : p.laws.get 0 = .linear)
    (laws : ∀ l, (p.laws.get l).legal) (ascending : ParksAscending p.parks) (length : p.parks.length ≤ 48) :
    SettingsInv { s with patch := p } :=
  { h with lawZero := zero, laws := laws, parks := ⟨ascending, length⟩ }

theorem SettingsInv.setParks {s : State} (h : SettingsInv s) {parks : List Park} (ascending : ParksAscending parks)
    (length : parks.length ≤ 48) : SettingsInv (s.setParks parks) :=
  h.withPatch (p := { s.patch with parks := parks }) h.lawZero h.laws ascending length

theorem SettingsInv.withReports {s : State} (h : SettingsInv s) {r : Reports} (queue : r.queue.length ≤ 32) :
    SettingsInv { s with reports := r } :=
  { h with queue := queue }

theorem SettingsInv.withMemory {s : State} (h : SettingsInv s) {m : ShowMemory}
    (image : ∀ i ∈ m.image, i.SettingsLegal) : SettingsInv { s with memory := m } :=
  { h with image := image }

/-- The level processor replaced by one whose periods and timer are in range (R67). -/
theorem SettingsInv.withLevel {s : State} (h : SettingsInv s) {x : LevelProcessor}
    (period : 4 ≤ x.period ∧ x.period ≤ 40)
    (inForce : 4 ≤ x.inForce ∧ x.inForce ≤ 40 ∧ x.timer ≤ x.inForce) :
    SettingsInv { s with level := x } :=
  { h with period := period, inForce := inForce }

theorem SettingsInv.imageOf {s : State} (h : SettingsInv s) : (imageOf s).SettingsLegal :=
  ⟨(h.desks .A).1, (h.desks .B).1, h.period, h.laws⟩

/-- The laws with Law 0 set LINEAR, as both resets set them (R105). -/
theorem laws_with_lawZero {laws : Table Law 8} (h : ∀ l, (laws.get l).legal) :
    (laws.set 0 .linear).get 0 = .linear ∧ ∀ l, ((laws.set 0 .linear).get l).legal := by
  refine ⟨Table.get_set_self .., fun l => ?_⟩
  rw [Table.get_set]
  split
  · trivial
  · exact h l

/-! ### Power-on, restart and the scan -/

theorem Image.factory_settingsLegal : Image.factory.SettingsLegal :=
  ⟨DeskSettings.factory_legal .A, DeskSettings.factory_legal .B, by decide, factory_law_legal⟩

theorem SettingsInv.handedOver {s : State} (h : SettingsInv s) : s.memory.handedOver.SettingsLegal := by
  cases hm : s.memory with
  | valid image => exact h.image image (by simp [hm, ShowMemory.image])
  | invalid => exact Image.factory_settingsLegal
  | storing image since => exact Image.factory_settingsLegal

theorem SettingsInv.powerOn {s : State} (h : SettingsInv s) : SettingsInv (powerOn s) := by
  obtain ⟨deskA, deskB, period, laws⟩ := h.handedOver
  obtain ⟨zero, laws⟩ := laws_with_lawZero laws
  have desks : DesksLegal (Machine.powerOn s) := fun d => by
    cases d
    · exact ⟨Monitor.afterReset_legal (fun _ => rfl) deskA, Nat.zero_le _⟩
    · exact ⟨Monitor.afterReset_legal nofun deskB, Nat.zero_le _⟩
  exact {
    rightsA := rfl
    desks := fun d => ⟨(desks d).1.settings, (desks d).2⟩
    arrivals := fun d => (desks d).1.arrival
    fades := fun d => (desks d).1.fade
    period := period
    inForce := ⟨period.1, period.2, Nat.le_refl _⟩
    lawZero := zero
    laws := laws
    parks := ⟨.nil, Nat.zero_le _⟩
    queue := Nat.zero_le _
    image := fun i hi => h.image i (image_powerOn hi) }

theorem SettingsInv.restartPart {s : State} (h : SettingsInv s) (d : Desk) : SettingsInv (restartPart d s) := by
  obtain ⟨zero, laws⟩ := laws_with_lawZero h.laws
  have desks : DesksLegal (Machine.restartPart d s) := fun x => by
    have legal := (h.desksLegal x).1
    cases x <;> exact ⟨Monitor.afterReset_legal legal.rights legal.settings, Nat.zero_le _⟩
  exact {
    rightsA := h.rightsA
    desks := fun x => ⟨(desks x).1.settings, (desks x).2⟩
    arrivals := fun x => (desks x).1.arrival
    fades := fun x => (desks x).1.fade
    period := h.period
    inForce := ⟨h.period.1, h.period.2, Nat.le_refl _⟩
    lawZero := zero
    laws := laws
    parks := ⟨.nil, Nat.zero_le _⟩
    queue := Nat.zero_le _
    image := h.image }

/-- A scan start takes the period into force and reloads the timer with it (R67). -/
theorem SettingsInv.scanStart {s : State} (h : SettingsInv s) : SettingsInv (scanStart s) := by
  rw [scanStart_eq]
  have begun := h.withLevel (x := s.scanStarted.level) h.period ⟨h.period.1, h.period.2, Nat.le_refl _⟩
  exact begun.write (laws := by simp only [State.scanStarted]) (parks := by simp only [State.scanStarted])

theorem SettingsInv.tick {s : State} (h : SettingsInv s) : SettingsInv (advanceMillisecond s) :=
  h.of_same (h.desksLegal.of_desks rfl rfl) ⟨rfl, rfl, Nat.sub_le .., rfl, rfl, rfl, rfl⟩

/-! ### Events, desks, contacts and clocks -/

theorem SettingsInv.report (e : Event) {s : State} (h : SettingsInv s) : SettingsInv (s.report e) :=
  h.withReports (Reports.take_queue_le h.queue e s.showClock)

theorem SettingsInv.keptByTaskWrites : KeptByTaskWrites SettingsInv where
  report e _ h := h.report e
  playback _ _ _ h := h.write
  clock _ _ _ h := h.write
  route _ _ _ h := h.write
  level _ _ _ _ h := h.write

theorem SettingsInv.raiseEvent (e : Event) {s : State} (h : SettingsInv s) : SettingsInv (raiseEvent e s) :=
  keptByTaskWrites.raiseEvent e h

theorem SettingsInv.checkTimeout (d : Desk) {s : State} (h : SettingsInv s) :
    SettingsInv (checkTimeout d s) := by
  obtain ⟨-, k⟩ | ⟨silent, k⟩ := checkTimeout_cases d s <;> rw [k]
  · exact h
  · exact (h.setMonitor ((h.desksLegal d).1.lose silent)).raiseEvent _

theorem SettingsInv.expireFade (d : Desk) {s : State} (h : SettingsInv s) : SettingsInv (expireFade d s) := by
  obtain ⟨-, k⟩ | ⟨-, k⟩ := expireFade_cases d s <;> rw [k]
  · exact h
  · have legal := (h.desksLegal d).1
    exact h.setMonitor ⟨legal.rights, legal.settings, legal.arrival, nofun⟩

theorem SettingsInv.levelsArrive (d : Desk) (base : Nat) (levels : List Byte) {s : State} (h : SettingsInv s) :
    SettingsInv (levelsArrive d base levels s) := by
  have arrived := h.setMonitor ((h.desksLegal d).1.arrive base levels s.showClock)
  unfold Machine.levelsArrive
  simp only
  split
  · exact arrived.raiseEvent _
  · exact arrived

theorem SettingsInv.acceptContact (c : Fin 4) {s : State} (h : SettingsInv s) :
    SettingsInv (acceptContact c s) := by
  have set := fun x => h.write (t := s.setContact c x)
  obtain k | k := acceptContact_cases c s <;> rw [k]
  · exact set _
  · exact (set _).raiseEvent _

theorem SettingsInv.debounceEnd (c : Fin 4) {s : State} (h : SettingsInv s) :
    SettingsInv (debounceEnd c s) := by
  unfold Machine.debounceEnd
  split
  · exact h.acceptContact c
  · exact h

theorem SettingsInv.changeContact (c : Fin 4) (high : Bool) {s : State} (h : SettingsInv s) :
    SettingsInv (changeContact c high s) := by
  have set := fun x => h.write (t := s.setContact c x)
  unfold Machine.changeContact
  simp only
  split
  · exact h
  · split
    · exact set _
    · split
      · exact (set _).acceptContact c
      · exact set _

theorem SettingsInv.owedAdvance (c : Fin 3) {s : State} (h : SettingsInv s) :
    SettingsInv (owedAdvance c s) := by
  have set := fun x => h.write (t := s.setClock c x)
  unfold Machine.owedAdvance
  split
  · obtain ⟨-, k⟩ | ⟨detail, -, k⟩ := advanceClock_cases c s <;> rw [k]
    · exact set _
    · exact (set _).raiseEvent _
  · exact h

/-! ### The owners that write a setting -/

theorem readLawBody_legal {kind : Byte} {body : List Byte} {new : Law} (h : readLawBody kind body = .ok new) :
    new.legal := by
  unfold readLawBody at h
  split at h
  · split at h <;> cases h
    trivial
  · split at h
    · simp only at h
      split at h <;> cases h
      rename_i inRange
      exact ⟨inRange.2.2, inRange.1⟩
    · cases h
  · cases h

theorem SettingsInv.ownerLoadLaw {s : State} (h : SettingsInv s) (law kind : Byte) (body : List Byte) :
    SettingsInv (ownerLoadLaw law kind body s).state := by
  unfold Machine.ownerLoadLaw
  split
  · exact h
  · rename_i l _
    split
    · exact h
    · rename_i notZero
      split
      · exact h
      · rename_i new read
        refine h.withPatch ((Table.get_set_ne _ notZero new).trans h.lawZero) (fun x => ?_) h.parks.1 h.parks.2
        rw [Table.get_set]
        split
        · exact readLawBody_legal read
        · exact h.laws x

/-- PARK adds an entry only where there is room, and otherwise writes over the circuit's own (R116). -/
theorem SettingsInv.ownerPark {s : State} (h : SettingsInv s) (circuit : Half) (level : Byte) :
    SettingsInv (ownerPark circuit level s).state := by
  obtain ⟨ascending, length⟩ := h.parks
  unfold Machine.ownerPark
  split
  · exact h
  · rename_i k _
    simp only
    split
    · rename_i room
      refine h.setParks (ParksAscending.putPark ascending ⟨k, level⟩) ?_
      obtain parked | room := room
      · obtain ⟨y, hy, same⟩ := exists_of_parkLevel parked
        exact (ParksAscending.putPark_length ascending hy same).trans_le length
      · exact (putPark_length_le _ _).trans room
    · exact h

theorem SettingsInv.ownerSetDesk {s : State} (h : SettingsInv s) (target : Byte) (timeout : Half)
    (lossAction : Byte) (lossFadeTime : Half) (merge rights : Byte) :
    SettingsInv (ownerSetDesk target timeout lossAction lossFadeTime merge rights s).state := by
  unfold Machine.ownerSetDesk
  split
  · exact h
  · rename_i d _
    split
    · simp only
      split
      · exact h
      · rename_i permitted
        have legal := (h.desksLegal d).1
        apply SettingsInv.checkTimeout
        apply h.setMonitor
        constructor
        · exact fun hd => not_not.mp fun other => permitted ⟨hd, other⟩
        · exact ⟨clamp_ge .., clamp_le (by decide) _, clamp_le (by decide) _⟩
        · exact legal.arrival
        · exact legal.fade
    · exact h

/-- Every owner keeps the settings in range. -/
theorem SettingsInv.perform {s : State} (h : SettingsInv s) (r : Request) :
    SettingsInv (perform r s).state := by
  cases r with
  | go | goto | back | pause | resume | release | loadList | unload | setMaster | setRate
  | setPlaybackTimes => exact keptByTaskWrites.playbackOwner rfl h
  | loadLaw law kind body => exact h.ownerLoadLaw law kind body
  | park circuit level => exact h.ownerPark circuit level
  | unpark circuit =>
    simp only [Machine.perform, ownerUnpark]
    split
    · exact h
    · split
      · exact h
      · exact h.setParks (h.parks.1.sublist List.filter_sublist) ((List.length_filter_le _ _).trans h.parks.2)
  | unparkAll => exact h.setParks .nil (Nat.zero_le _)
  | setScan period => exact h.withLevel ⟨clamp_ge .., clamp_le (by decide) _⟩ h.inForce
  | setDesk => exact h.ownerSetDesk ..
  | setContact c e t =>
    have set := fun c x => h.write (t := s.setContact c x)
    simp only [Machine.perform, ownerSetContact]
    (repeat' split) <;>
      first
        | exact h
        | exact (set _ _).debounceEnd _
        | exact set _ _
  | takeReports count =>
    refine h.withReports ?_
    rw [List.length_drop]
    exact (Nat.sub_le ..).trans h.queue
  | store => exact h.withMemory fun i hi => by cases hi; exact h.imageOf
  | readDesk d c =>
    simp only [Machine.perform, ownerReadDesk]
    (repeat' split) <;> first | exact h | exact h.setReceiver _ (Nat.zero_le _)
  | _ =>
    simp only [Machine.perform, ownerWriteCue, writeCheckedCue, ownerDeleteCue, ownerClearList,
      ownerSetCircuit, ownerCopyBank, ownerClearBank, ownerSelectBank, ownerCancelSwap, ownerSetGrandMaster,
      ownerBlackout, ownerSetLink, ownerSetClock, ownerClockAction, ownerSetWatch, ownerSetRoute,
      ownerSetReportMask, ownerClearFlags, ownerReadStatus, ownerReadPlayback, ownerReadChannel,
      ownerReadCircuit, ownerReadCue, ownerReadBankEntry, ownerReadLaw, ownerReadTriggers, refuse]
    (repeat' split) <;> exact h.write

theorem SettingsInv.keptByCommands : KeptByCommands SettingsInv where
  port d p _ h := h.setPort d p
  processor _ _ h := h.write
  held _ _ h := h.write
  owner r _ h := h.perform r

/-! ### Compute end, replies and the show memory -/

theorem SettingsInv.postSets {s : State} (h : SettingsInv s) : SettingsInv (postSets s) := by
  have skipped : ∀ (links : List (Fin 4)) {u : State}, SettingsInv u → SettingsInv (raiseSkipped links u) :=
    fun links _ hu => foldl_keeps (fun _ _ hv => hv.report _) links hu
  have posted := fun links n => h.write (t := { s with links := links, choices := n })
  unfold Machine.postSets raiseSkippedFreely
  simp only
  split
  · exact posted _ _
  · exact skipped _ (posted _ _)
  · exact skipped _ (posted _ _)

theorem SettingsInv.darkTest {s : State} (h : SettingsInv s) : SettingsInv (darkTest s) := by
  unfold Machine.darkTest
  simp only
  (repeat' split) <;> exact h.write

theorem SettingsInv.swapDone {s : State} (h : SettingsInv s) : SettingsInv (swapDone s) := by
  unfold Machine.swapDone
  split
  · rename_i before _
    have raised := h.raiseEvent ⟨.swapDone, numbered s.level.activeBank, numbered before⟩
    generalize Machine.raiseEvent _ s = u at raised ⊢
    exact raised.write
  · exact h

theorem SettingsInv.evaluateWatch {s : State} (h : SettingsInv s) (w : Fin 8) :
    SettingsInv (evaluateWatch s w) := by
  have set := fun x => h.write (t := s.setWatch w x)
  unfold Machine.evaluateWatch
  simp only
  split
  · exact (set _).raiseEvent _
  · exact set _

theorem SettingsInv.scanWorkEvents {s : State} (h : SettingsInv s) : SettingsInv (scanWorkEvents s) := by
  have cleared := fun t => h.write (t := { s with playbacks := t })
  exact keptByTaskWrites.raiseAll _ (cleared _)

theorem SettingsInv.computeEnd {s : State} (h : SettingsInv s) : SettingsInv (computeEnd s) :=
  computeEnd_keeps (fun u k => (k.write (s := u)).postSets)
    (fun x rest u k => keptByCommands.takeHeld
      (fun r t _ kv => keptByTaskWrites.takeTask (fun e _ k => k.raiseEvent e) r t kv) x
      (keptByCommands.held rest u k))
    (fun _ k => k.darkTest) (fun _ k => k.swapDone) (fun _ k => k.scanWorkEvents)
    (fun _ w k => k.evaluateWatch w) (fun _ k => k.write) (fun _ k => keptByCommands.arbitrate k) h

theorem SettingsInv.replyDone (d : Desk) {s : State} (h : SettingsInv s) : SettingsInv (replyDone d s) := by
  have sent : ∀ rest, SettingsInv (s.setReplies d rest) := fun _ => h.setPort d _
  unfold Machine.replyDone
  split
  · exact h
  · simp only
    split
    · exact sent _
    · exact sent _
    · exact (sent _).setPort d _
    · exact (sent _).restartPart d

theorem SettingsInv.restartMoment {s : State} (h : SettingsInv s) : SettingsInv (restartMoment s) := by
  unfold Machine.restartMoment
  split
  · exact h.restartPart _
  · exact h

theorem SettingsInv.storeCompleted {s : State} (h : SettingsInv s) : SettingsInv (storeCompleted s) := by
  unfold Machine.storeCompleted
  split
  · rename_i image since hm
    have valid := h.withMemory (m := .valid image) fun i hi => h.image i (by rw [hm]; exact hi)
    exact valid.raiseEvent _
  · exact h
  · exact h

theorem SettingsInv.storeFaulted {s : State} (h : SettingsInv s) : SettingsInv (storeFaulted s) := by
  unfold Machine.storeFaulted
  split
  · exact (h.withMemory (m := .invalid) nofun).raiseEvent _
  · exact h
  · exact h

/-- Every occurrence keeps the settings in range. -/
theorem SettingsInv.keptByOccurrences : KeptByOccurrences SettingsInv where
  queue _ _ h := h.write
  choice _ _ h := h.write
  power _ h := h.powerOn
  millisecond _ h := h.tick
  receiver d x _ h := h.setReceiver d (Receiver.take_errors_le (h.desks d).2 x)
  levels d base levels _ h := h.levelsArrive d base levels
  command d c _ h := keptByCommands.commandArrives d c h
  timeout d _ h := h.checkTimeout d
  lossFade d _ h := h.expireFade d
  reply d _ h := h.replyDone d
  restart _ h := h.restartMoment
  scan _ _ _ h := h.scanStart
  compute _ _ h := h.computeEnd
  frame _ _ h := h.write
  refresh _ _ h := h.write
  input c high _ h := h.changeContact c high
  debounce c _ h := h.debounceEnd c
  clock c _ h := h.owedAdvance c
  stored _ h := h.storeCompleted
  faulted _ h := h.storeFaulted

/-- Settles O56: every write of a setting keeps its range, and every step is made of occurrences. -/
theorem stepKeepsTheSettings : Obligations.StepKeepsTheSettings :=
  fun _ _ h step => step_keeps SettingsInv.keptByOccurrences h step

end Sys2Proof.Machine
end

section
/-! PROOFS. A frame at a desk receiver, said once for both kinds: after its header every byte but the last leaves
it in progress, and the last decides (R47, R50 to R52). -/

namespace Sys2Proof.Machine

/-! ### Writes of a receiver -/

@[simp] theorem State.setReceiver_setReceiver (s : State) (d : Desk) (u v : Receiver) :
    (s.setReceiver d u).setReceiver d v = s.setReceiver d v := by
  cases d <;> rfl

/-- A receiver that is written as it stands. -/
theorem State.setReceiver_of_eq {s : State} {d : Desk} {r : Receiver} (h : (s.desk d).receiver = r) :
    s.setReceiver d r = s := by
  subst h
  cases d <;> rfl

/-! ### One character -/

/-- What the bytes of a frame taken so far come to, for either kind of frame (R50, R52). -/
def Receiver.frameByte (r : Receiver) : FrameKind → List Byte → Receiver × Option Accepted
  | .levels, bytes => r.levelsByte bytes
  | .command, bytes => r.commandByte bytes

/-- An unmarked character with a good stop bit is the next byte of the frame in progress (R47). -/
theorem Receiver.take_inFrame {r : Receiver} {kind : FrameKind} {bytes : List Byte}
    (h : r.state = .inFrame kind bytes) (b : Byte) :
    r.take ⟨b, false, true⟩ = r.frameByte kind (bytes ++ [b]) := by
  unfold Receiver.take
  simp only [Bool.not_true, Bool.false_eq_true, if_false, h]
  cases kind <;> rfl

/-- A framing error discards whatever is in progress (R49). -/
theorem Receiver.take_badStop (r : Receiver) (b : Byte) (mark : Bool) :
    r.take ⟨b, mark, false⟩ = (r.discard, none) := rfl

/-- In HUNT an unmarked character is ignored (R47). -/
theorem Receiver.take_hunt_unmarked {r : Receiver} (h : r.state = .hunt) (b : Byte) :
    r.take ⟨b, false, true⟩ = (r, none) := by
  unfold Receiver.take
  simp only [Bool.not_true, Bool.false_eq_true, if_false, h]

/-- The receiver that a marked character with a good stop bit leaves (R47, R48). -/
theorem Receiver.take_marked (r : Receiver) (b : Byte) :
    r.take ⟨b, true, true⟩ =
      ((if r.state = .hunt then r else r.countError).header b, none) := by
  unfold Receiver.take
  simp only [Bool.not_true, Bool.false_eq_true, if_false]
  cases h : r.state <;> simp

/-- What the bytes of a frame come to does not depend on the receiver's own state. -/
theorem Receiver.frameByte_state (r : Receiver) (x : ReceiverState) (kind : FrameKind) (bytes : List Byte) :
    { r with state := x }.frameByte kind bytes = r.frameByte kind bytes := by
  cases kind with
  | levels =>
    unfold Receiver.frameByte Receiver.levelsByte
    split <;> rfl
  | command =>
    unfold Receiver.frameByte Receiver.commandByte
    split <;> rfl

/-- What a desk's receiver makes of a character (R47, R51, R52). -/
theorem receive_of_take {d : Desk} {x : Character} {s : State} {r : Receiver} {a : Option Accepted}
    (h : (s.desk d).receiver.take x = (r, a)) : receive d x s = acceptFrame d a (s.setReceiver d r) := by
  unfold receive
  rw [h]

/-! ### A whole frame -/

/-- The header of a frame leaves its receiver at the beginning of that frame (R47). -/
theorem takeHeader_ready {d : Desk} {kind : FrameKind} {s : State} (h : readyFor d kind s) :
    takeHeader d kind s = s.setReceiver d { (s.desk d).receiver with state := .inFrame kind [] } := by
  have header : headerKind kind.headerByte = some kind := by cases kind <;> decide
  unfold takeHeader
  split
  · rename_i begun
    rw [State.setReceiver_of_eq]
    rw [← begun]
  · rename_i notBegun
    have hunt := h.resolve_right notBegun
    rw [receive_of_take (Receiver.take_marked ..), if_pos hunt, Receiver.header, header]
    rfl

/-- A frame in progress at `before`, of whose further bytes only the last can end it. -/
theorem receiveRun_inFrame {d : Desk} {kind : FrameKind} {r : Receiver} {s : State} {bytes before : List Byte}
    (more : bytes ≠ [])
    (progress : ∀ p, p <+: before ++ bytes → before.length < p.length →
      p.length < (before ++ bytes).length →
      r.frameByte kind p = ({ r with state := .inFrame kind p }, none)) :
    receiveRun d bytes (s.setReceiver d { r with state := .inFrame kind before }) =
      acceptFrame d (r.frameByte kind (before ++ bytes)).2
        (s.setReceiver d (r.frameByte kind (before ++ bytes)).1) := by
  induction bytes generalizing before with
  | nil => exact absurd rfl more
  | cons b rest ih =>
    have first : receive d ⟨b, false, true⟩ (s.setReceiver d { r with state := .inFrame kind before }) =
        acceptFrame d (r.frameByte kind (before ++ [b])).2
          (s.setReceiver d (r.frameByte kind (before ++ [b])).1) := by
      unfold receive
      simp only [State.setReceiver_desk_receiver, State.setReceiver_setReceiver]
      rw [Receiver.take_inFrame rfl, Receiver.frameByte_state]
    have assoc : before ++ b :: rest = (before ++ [b]) ++ rest := by simp
    unfold receiveRun at ih ⊢
    rw [List.foldl_cons, first]
    cases rest with
    | nil => rfl
    | cons b' rest =>
      rw [progress (before ++ [b]) ⟨b' :: rest, by simp⟩ (by simp) (by simp), assoc]
      refine ih (List.cons_ne_nil b' rest) fun p prefixed longer shorter => ?_
      rw [← assoc] at prefixed shorter
      rw [List.length_append] at longer
      exact progress p prefixed (by omega) shorter

/-- A frame received from HUNT or after its header, when only its last byte can end it (R47, R50, R52). -/
theorem receiveFrame_eq {d : Desk} {kind : FrameKind} {s : State} {bytes : List Byte}
    (ready : readyFor d kind s) (nonempty : bytes ≠ [])
    (progress : ∀ r : Receiver, ∀ p, p <+: bytes → p.length < bytes.length →
      r.frameByte kind p = ({ r with state := .inFrame kind p }, none)) :
    receiveFrame d kind bytes s =
      acceptFrame d ((s.desk d).receiver.frameByte kind bytes).2
        (s.setReceiver d ((s.desk d).receiver.frameByte kind bytes).1) := by
  unfold receiveFrame
  rw [takeHeader_ready ready]
  exact receiveRun_inFrame nonempty fun p prefixed _ shorter => progress _ p prefixed shorter

/-- The bytes taken so far of a frame end within its fixed part, or go on from it. -/
theorem prefix_append_cases {α : Type} {p head body : List α} (h : p <+: head ++ body) :
    p.length < head.length ∨ ∃ q, p = head ++ q ∧ q <+: body := by
  by_cases short : p.length < head.length
  · exact .inl short
  · obtain ⟨q, rfl⟩ := List.prefix_of_prefix_length_le (List.prefix_append head body) h (not_lt.mp short)
    exact .inr ⟨q, rfl, (List.prefix_append_right_inj head).mp h⟩

/-! ### LEVELS frames (R50, R51) -/

/-- A LEVELS header that R50 refuses. -/
abbrev LevelsRefused (base : Half) (count : Byte) : Prop := base.toNat = 0 ∨ 768 < base.toNat ∨ count = 0

/-- The three bytes of base and count come first (R50, R176). -/
theorem Receiver.levelsByte_short (r : Receiver) {p : List Byte} (h : p.length < 3) :
    r.levelsByte p = ({ r with state := .inFrame .levels p }, none) := by
  match p with
  | [] | [_] | [_, _] => rfl
  | _ :: _ :: _ :: rest =>
    simp only [List.length_cons] at h
    omega

/-- The bytes of a LEVELS frame from its count byte on (R50, R51). -/
theorem Receiver.levelsByte_header (r : Receiver) (base : Half) (count : Byte) (levels : List Byte) :
    r.levelsByte (halfBytes base ++ [count] ++ levels) =
      if LevelsRefused base count then (r.discard, none)
      else if levels.length = count.toNat then ({ r with state := .hunt }, some (.levels base.toNat levels))
      else ({ r with state := .inFrame .levels (halfBytes base ++ [count] ++ levels) }, none) := by
  simp only [halfBytes, List.cons_append, List.nil_append, Receiver.levelsByte, half_extract]

/-- A LEVELS frame that passes the checks of R50 is accepted with its last level, and the receiver is back in HUNT
(R51). -/
theorem receiveFrame_levels {d : Desk} {s : State} {base : Half} {levels : List Byte}
    (ready : readyFor d .levels s) (good : ¬LevelsRefused base (BitVec.ofNat 8 levels.length))
    (fits : levels.length ≤ 255) :
    receiveFrame d .levels (levelsFrameBytes base levels) s =
      levelsArrive d base.toNat levels
        (s.setReceiver d { (s.desk d).receiver with state := .hunt }) := by
  have count : (BitVec.ofNat 8 levels.length).toNat = levels.length := by
    rw [BitVec.toNat_ofNat, Nat.mod_eq_of_lt (by omega)]
  unfold levelsFrameBytes
  rw [receiveFrame_eq ready (by simp [halfBytes]) fun r p prefixed shorter => ?_]
  · simp only [Receiver.frameByte, Receiver.levelsByte_header, if_neg good, count, if_true, acceptFrame]
  · obtain short | ⟨q, rfl, -⟩ := prefix_append_cases prefixed
    · exact r.levelsByte_short short
    · have waits : q.length ≠ levels.length := by
        simp only [List.length_append] at shorter
        omega
      simp only [Receiver.frameByte, Receiver.levelsByte_header, if_neg good, count, if_neg waits]

/-- A LEVELS frame that fails a check of R50 is refused at its count byte. -/
theorem receiveFrame_levelsRefused {d : Desk} {s : State} {base : Half} {count : Byte}
    (ready : readyFor d .levels s) (bad : LevelsRefused base count) :
    receiveFrame d .levels (halfBytes base ++ [count]) s =
      s.setReceiver d (s.desk d).receiver.discard := by
  rw [receiveFrame_eq ready (by simp) fun r p _ shorter => r.levelsByte_short (by simpa using shorter)]
  have refused := (s.desk d).receiver.levelsByte_header base count []
  rw [List.append_nil, if_pos bad] at refused
  simp only [Receiver.frameByte, refused, acceptFrame]

/-! ### COMMAND frames (R52) -/

/-- The four bytes of tag, code and length come first (R52, R176). -/
theorem Receiver.commandByte_short (r : Receiver) {p : List Byte} (h : p.length < 4) :
    r.commandByte p = ({ r with state := .inFrame .command p }, none) := by
  match p with
  | [] | [_] | [_, _] | [_, _, _] => rfl
  | _ :: _ :: _ :: _ :: rest =>
    simp only [List.length_cons] at h
    omega

/-- A length above 2,400 is refused with its last byte (R52). -/
theorem Receiver.commandByte_long (r : Receiver) (tag code : Byte) {length : Half} (rest : List Byte)
    (h : 2400 < length.toNat) :
    r.commandByte ([tag, code] ++ halfBytes length ++ rest) = (r.discard, none) := by
  simp only [halfBytes, List.cons_append, List.nil_append, Receiver.commandByte, half_extract,
    Config.maxParams, h, if_true]

/-- A frame whose parameters or check are still to come stays in progress (R52). -/
theorem Receiver.commandByte_progress (r : Receiver) (tag code : Byte) {length : Half} {rest : List Byte}
    (h : length.toNat ≤ 2400) (waits : rest.length ≠ length.toNat + 2) :
    r.commandByte ([tag, code] ++ halfBytes length ++ rest) =
      ({ r with state := .inFrame .command ([tag, code] ++ halfBytes length ++ rest) }, none) := by
  simp only [halfBytes, List.cons_append, List.nil_append, Receiver.commandByte, half_extract,
    Config.maxParams, if_neg h.not_gt, if_neg waits]

/-- The last byte of a COMMAND frame decides by its check (R52). -/
theorem Receiver.commandByte_whole (r : Receiver) (tag code : Byte) {params : List Byte} (check : Half)
    (h : params.length ≤ 2400) :
    r.commandByte (commandFrameBytes tag code params check) =
      if check = frameCheck tag code params then
        ({ r with state := .hunt }, some (.command ⟨tag, code, params⟩))
      else (r.discard, none) := by
  have length : (BitVec.ofNat 16 params.length).toNat = params.length := by
    rw [BitVec.toNat_ofNat, Nat.mod_eq_of_lt (by omega)]
  have taken : (params ++ halfBytes check).take params.length = params := by simp
  have left : (params ++ halfBytes check).drop params.length = halfBytes check := by simp
  unfold commandFrameBytes frameCheck
  rw [List.append_assoc _ params]
  simp only [halfBytes, List.cons_append, List.nil_append, Receiver.commandByte, half_extract, length,
    Config.maxParams, if_neg h.not_gt, List.length_append, List.length_cons, List.length_nil, if_true]
    at taken left ⊢
  simp only [taken, left, half_extract]
  rfl

/-- A COMMAND frame within 2,400 bytes, from HUNT or after its header: what its check decides, the receiver is back
in HUNT (R52). -/
theorem receiveFrame_command {d : Desk} {s : State} {tag code : Byte} {params : List Byte} (check : Half)
    (ready : readyFor d .command s) (fits : params.length ≤ 2400) :
    receiveFrame d .command (commandFrameBytes tag code params check) s =
      if check = frameCheck tag code params then
        commandArrives d ⟨tag, code, params⟩ (s.setReceiver d { (s.desk d).receiver with state := .hunt })
      else s.setReceiver d (s.desk d).receiver.discard := by
  have length : (BitVec.ofNat 16 params.length).toNat = params.length := by
    rw [BitVec.toNat_ofNat, Nat.mod_eq_of_lt (by omega)]
  rw [receiveFrame_eq ready (by simp [commandFrameBytes]) fun r p prefixed shorter => ?_]
  · simp only [Receiver.frameByte, Receiver.commandByte_whole _ tag code check fits]
    split <;> rfl
  · unfold commandFrameBytes at prefixed shorter
    rw [List.append_assoc _ params] at prefixed shorter
    obtain short | ⟨q, rfl, -⟩ := prefix_append_cases prefixed
    · exact r.commandByte_short short
    · refine r.commandByte_progress tag code (length.trans_le fits) ?_
      rw [length]
      simp only [List.length_append, halfBytes_length] at shorter
      omega

/-- A COMMAND frame whose length is above 2,400 is refused at its length (R52). -/
theorem receiveFrame_commandLength {d : Desk} {s : State} {tag code : Byte} {length : Half}
    (ready : readyFor d .command s) (long : 2400 < length.toNat) :
    receiveFrame d .command ([tag, code] ++ halfBytes length) s =
      s.setReceiver d (s.desk d).receiver.discard := by
  rw [receiveFrame_eq ready (by simp) fun r p _ shorter => r.commandByte_short (by simpa using shorter)]
  have refused := (s.desk d).receiver.commandByte_long tag code [] long
  rw [List.append_nil] at refused
  simp only [Receiver.frameByte, refused, acceptFrame]

end Sys2Proof.Machine
end

section
/-! PROOFS. O3, O5, O11, O12 and O13: what the desk receivers make of their characters, and the commands that arrive
(R47 to R52, R54, R58 to R60, R149 to R151). -/

namespace Sys2Proof.Machine

/-! ### O13 and O12: framing errors, headers and refused frames (R47 to R50, R52) -/

theorem Receiver.discard_eq (r : Receiver) : r.discard = ⟨.hunt, min (r.errors + 1) 65535⟩ := rfl

/-- Settles O13: the character is taken as a discard in either state, and HUNT ignores what is unmarked. -/
theorem framingErrorSendsToHunt : Obligations.FramingErrorSendsToHunt := by
  intro d mark data s
  refine ⟨?_, fun x => ?_⟩
  · simp only [exec, execFramingError, receive, Receiver.take_badStop, acceptFrame, Receiver.discard_eq]
  · rw [receive_of_take ((congrArg (Receiver.take · _) (State.setReceiver_desk_receiver ..)).trans
      (Receiver.take_hunt_unmarked rfl x)), State.setReceiver_setReceiver]
    rfl

theorem refusedFramesCountOneError : Clause.RefusedFramesCountOneError := by
  intro d s
  refine ⟨fun base count ready bad => ?_, fun tag code length ready long => ?_,
    fun tag code params check ready fits wrong => ?_⟩
  · simp only [exec, execLevelsFrameRefused, receiveFrame_levelsRefused ready bad, Receiver.discard_eq]
  · simp only [exec, execCommandLengthRefused, receiveFrame_commandLength ready long, Receiver.discard_eq]
  · simp only [exec, execCommandFrame, receiveFrame_command check ready fits, if_neg wrong, Receiver.discard_eq]

/-- The receiver that a header leaves, by the kind in the header's upper four bits (R47, R174). -/
theorem Receiver.header_eq (r : Receiver) (data : Byte) :
    r.header data = ⟨match headerNibble data with
      | 1 => .inFrame .levels []
      | 4 => .inFrame .command []
      | _ => .hunt, r.errors⟩ := by
  unfold Receiver.header headerKind headerNibble
  generalize (data.extractLsb' 4 4).toNat = kind
  match kind with
  | 0 | 1 | 2 | 3 | 4 | _ + 5 => rfl

theorem markedCharacterBeginsAFrame : Clause.MarkedCharacterBeginsAFrame := by
  intro d data s r state errors
  have counted : (if r.state = .hunt then r else r.countError).errors = errors :=
    apply_ite Receiver.errors (r.state = .hunt) r r.countError
  have begun : (if r.state = .hunt then r else r.countError).header data = ⟨state, errors⟩ :=
    (Receiver.header_eq _ data).trans (congrArg (Receiver.mk state) counted)
  have received : receive d ⟨data, true, true⟩ s = s.setReceiver d ⟨state, errors⟩ :=
    receive_of_take ((r.take_marked data).trans (congrArg (·, none) begun))
  exact ⟨congrArg Host.Outcome.next received, congrArg Host.Outcome.next received⟩

/-- Settles O12: a refused frame is a discard, and a marked character is a header in either state. -/
theorem framesBeginAndAreRefused : Obligations.FramesBeginAndAreRefused :=
  ⟨refusedFramesCountOneError, markedCharacterBeginsAFrame⟩

/-! ### O3: a request in its frame (R52, R149, R179) -/

/-- The parameters of a well-formed request row fit a COMMAND frame (R52, R179). -/
theorem Instr.params_length_le {i : Instr} {d : Desk} {tag : Byte} {r : Request} (legal : i.wellFormed = true)
    (row : i.request = some (d, tag, r)) : r.params.length ≤ 2400 := by
  cases i with
  | writeCue d tag list cue up down upDelay downDelay follow link count entries =>
    cases row
    have fits : 17 + 3 * entries.length ≤ 2400 := of_decide_eq_true legal
    simp only [Request.params, List.length_append, halfBytes_length, entryBytes_length, List.length_singleton]
    omega
  | loadLaw d tag law kind body =>
    cases row
    have lengths : body.length = 17 ∨ body.length = 4 := by simpa [Instr.wellFormed] using legal
    simp only [Request.params, List.length_append, List.length_cons, List.length_nil]
    omega
  | _ => cases row <;> exact Nat.le_of_ble_eq_true rfl

/-- A COMMAND frame with its check hands on its command, and the receiver is back in HUNT (R52). -/
theorem exec_commandFrame {d : Desk} {s : State} {tag code : Byte} {params : List Byte}
    (ready : readyFor d .command s) (fits : params.length ≤ 2400) :
    exec (.commandFrame d tag code params (frameCheck tag code params)) s =
      .next (commandArrives d ⟨tag, code, params⟩
        (s.setReceiver d { (s.desk d).receiver with state := .hunt })) := by
  simp only [exec, execCommandFrame, receiveFrame_command _ ready fits, if_true]

/-- Settles O3: the accepted frame and the row are the same arrival. -/
theorem requestFrameDoesWhatItsRowDoes : Obligations.RequestFrameDoesWhatItsRowDoes := by
  intro i d tag r s legal row ready
  rw [exec_commandFrame ready (Instr.params_length_le legal row), exec_request row]
  rfl

/-! ### O5: arrivals at a busy buffer or processor (R149 to R151) -/

theorem addReply_busy (d : Desk) (c : Command) (s : State) :
    addReply d .busy c .busy [] s =
      s.setPort d ⟨(s.desk d).port.buffer,
        (s.desk d).port.replies ++ [⟨.busy, c.tag, c.code, .busy, replyFlags s, []⟩]⟩ := rfl

/-- A command that finds its buffer not EMPTY is answered BUSY or discarded (R149, R150). -/
theorem commandArrives_busy {d : Desk} {s : State} (c : Command) (full : (s.desk d).port.buffer ≠ .empty) :
    commandArrives d c s =
      if busyReplies (s.desk d).port.replies < 3 then addReply d .busy c .busy [] s else s := by
  unfold commandArrives
  split
  · rename_i empty
    exact absurd empty full
  all_goals rfl

theorem secondCommandIsAnsweredBusy : Clause.SecondCommandIsAnsweredBusy := by
  intro i d tag r s row full p
  rw [exec_request row, requestArrives, commandArrives_busy _ full]
  refine ⟨fun room => ?_, fun noRoom => ?_⟩
  · rw [if_pos room, addReply_busy]
    rfl
  · rw [if_neg noRoom.not_gt]

theorem nextCommand_of_busy {s : State} (busy : s.processor.state ≠ .idle) : nextCommand s = none := by
  unfold nextCommand
  simp only
  split
  · contradiction
  · rfl
  · rfl

/-- A command that arrives at an EMPTY buffer while the processor is busy waits there (R149, R151). -/
theorem commandArrives_waits {d : Desk} {s : State} (c : Command) (empty : (s.desk d).port.buffer = .empty)
    (busy : s.processor.state ≠ .idle) :
    commandArrives d c s = s.setPort d ⟨.waiting c, (s.desk d).port.replies⟩ := by
  have nothingNext : nextCommand (s.setBuffer d (.waiting c)) = none :=
    nextCommand_of_busy (by rwa [State.setBuffer_processor])
  unfold commandArrives
  simp only [empty, arbitrate, arbitrateWithin, nothingNext]
  rfl

theorem Buffer.waitingCommand_eq_some {b : Buffer} {c : Command} :
    b.waitingCommand = some c ↔ b = .waiting c := by
  cases b <;> simp [Buffer.waitingCommand]

theorem Desk.eq_other_of_ne {x y : Desk} (h : x ≠ y) : x = y.other := by
  cases x <;> cases y <;> first | rfl | exact absurd rfl h

/-- The arbiter's choice: an IDLE processor takes the desk not served most recently first (R151). -/
theorem nextCommand_eq_some {s : State} {x : Desk} {c : Command} :
    nextCommand s = some (x, c) ↔
      s.processor.state = .idle ∧ (s.desk x).port.buffer = .waiting c ∧
        (x = s.processor.served → (s.desk x.other).port.buffer.waitingCommand = none) := by
  by_cases idle : s.processor.state = .idle
  · rw [← Buffer.waitingCommand_eq_some]
    by_cases hx : x = s.processor.served
    · subst hx
      have differ : s.processor.served.other ≠ s.processor.served := by cases s.processor.served <;> decide
      cases first : (s.desk s.processor.served.other).port.buffer.waitingCommand <;>
        simp [nextCommand, idle, first, differ]
    · have other := Desk.eq_other_of_ne hx
      subst other
      cases first : (s.desk s.processor.served.other).port.buffer.waitingCommand <;>
        simp [nextCommand, idle, first, hx, Ne.symm hx]
  · rw [nextCommand_of_busy idle]
    simp [idle]

theorem waitingCommandsAreServedInTurn : Clause.WaitingCommandsAreServedInTurn := by
  refine ⟨fun i d tag r s row empty busy => ?_, fun d tag code params s ready fits empty busy => ?_,
    fun s x c => nextCommand_eq_some⟩
  · rw [exec_request row, requestArrives, commandArrives_waits _ empty busy]
  · rw [exec_commandFrame ready fits, commandArrives_waits _ (by simpa using empty) (by simpa using busy),
      State.setReceiver_desk_port]
    cases d <;> rfl

/-- Settles O5: the buffer decides first, then the processor's state, and the arbiter's mark decides the turn. -/
theorem arrivalsAtABusyBufferOrProcessor : Obligations.ArrivalsAtABusyBufferOrProcessor :=
  ⟨secondCommandIsAnsweredBusy, waitingCommandsAreServedInTurn⟩

/-! ### O11: an accepted LEVELS frame (R51, R54, R58 to R60) -/

/-- A channel of the live array after a LEVELS frame: the frame's slot for it, expanded, or what it was (R51). -/
theorem writeSlots_get (levels : List Byte) (base : Nat) (live : Table Nat 768) (c : Fin 768) :
    (writeSlots base levels live).get c =
      if base ≤ numbered c then
        match levels[numbered c - base]? with
        | some x => expand x
        | none => live.get c
      else live.get c := by
  induction levels generalizing base live with
  | nil => simp [writeSlots]
  | cons x rest ih =>
    have step : writeSlots base (x :: rest) live =
        writeSlots (base + 1) rest (match number 768 base with
          | some ch => live.set ch (expand x)
          | none => live) := rfl
    have written : (match number 768 base with
        | some ch => live.set ch (expand x)
        | none => live).get c = if base = numbered c then expand x else live.get c := by
      split
      · rename_i ch hch
        rw [number_eq_some] at hch
        rw [hch, Table.get_set]
        simp only [numbered_inj]
      · rename_i noChannel
        rw [if_neg]
        rintro rfl
        rw [number_numbered] at noChannel
        cases noChannel
    rw [step, ih, written]
    rcases Nat.lt_trichotomy base (numbered c) with below | same | above
    · obtain ⟨k, hk⟩ : ∃ k, numbered c - base = k + 1 := ⟨numbered c - base - 1, by omega⟩
      have next : numbered c - (base + 1) = k := by omega
      rw [if_pos (by omega), if_pos below.le, if_neg below.ne, next, hk]
      rfl
    · rw [if_neg (by omega), if_pos same, if_pos same.le, same, Nat.sub_self]
      rfl
    · rw [if_neg (by omega), if_neg above.ne', if_neg above.not_ge]

/-- The value of a channel that a LEVELS frame leaves alone: the faded one while a loss fade runs (R58). -/
theorem Monitor.writeBack_live (m : Monitor) (now : Time) (c : Fin 768) :
    (m.writeBack now).live.get c = match m.fadeRunning, m.loss with
      | true, some x => fadedLevel (elapsed now x.moment) x.fadeTime (m.live.get c)
      | _, _ => m.live.get c := by
  unfold Monitor.writeBack
  cases m.fadeRunning <;> cases m.loss <;> first | rfl | exact Table.get_map ..

theorem Monitor.writeBack_frame (m : Monitor) (now : Time) :
    (m.writeBack now).loss = m.loss ∧ (m.writeBack now).lastBase1 = m.lastBase1 ∧
      (m.writeBack now).refreshInterval = m.refreshInterval := by
  unfold Monitor.writeBack
  split <;> exact ⟨rfl, rfl, rfl⟩

/-- The refresh interval and the base-1 time after an arrival (R60). -/
theorem Monitor.arrive_measured (m : Monitor) (base : Nat) (levels : List Byte) (now : Time) :
    (m.arrive base levels now).loss = m.loss ∧
      (base = 1 → (m.arrive base levels now).lastBase1 = some now ∧
        (m.arrive base levels now).refreshInterval = match m.lastBase1 with
          | some t => some (now - t)
          | none => m.refreshInterval) ∧
      (base ≠ 1 → (m.arrive base levels now).lastBase1 = m.lastBase1 ∧
        (m.arrive base levels now).refreshInterval = m.refreshInterval) := by
  obtain ⟨loss, last, interval⟩ := m.writeBack_frame now
  rw [← loss, ← last, ← interval]
  unfold Monitor.arrive Monitor.measure
  by_cases first : base = 1
  · rw [if_pos first]
    exact ⟨rfl, fun _ => ⟨rfl, rfl⟩, fun other => absurd first other⟩
  · rw [if_neg first]
    exact ⟨rfl, fun one => absurd one first, fun _ => ⟨rfl, rfl⟩⟩

theorem Monitor.arrive_live (m : Monitor) (base : Nat) (levels : List Byte) (now : Time) :
    (m.arrive base levels now).live = writeSlots base levels (m.writeBack now).live := by
  unfold Monitor.arrive
  rw [Monitor.measure_live]

/-- Settles O11: the frame's last level hands it on, and the arrival is one write of the monitor. -/
theorem levelsFrameIsAppliedWhole : Obligations.LevelsFrameIsAppliedWhole := by
  intro d base levels s legal ready m running kept
  simp only [Instr.wellFormed, Bool.and_eq_true, decide_eq_true_eq, and_assoc] at legal
  obtain ⟨least, greatest, carries, fits⟩ := legal
  have good : ¬LevelsRefused base (BitVec.ofNat 8 levels.length) := by
    rintro (zero | high | noCount)
    · omega
    · omega
    · have count := congrArg BitVec.toNat noCount
      rw [BitVec.toNat_ofNat, Nat.mod_eq_of_lt (by omega)] at count
      exact Nat.ne_of_gt carries count
  obtain ⟨state, arrived, fade, settings⟩ := m.arrive_frame base.toNat levels s.showClock
  obtain ⟨loss, first, other⟩ := m.arrive_measured base.toNat levels s.showClock
  have isOne : base = 1 ↔ base.toNat = 1 := ⟨fun h => by rw [h]; rfl, fun h => BitVec.eq_of_toNat_eq h⟩
  refine ⟨m.arrive base.toNat levels s.showClock, ?_, state, arrived,
    fade.trans (m.writeBack_fadeRunning running s.showClock), loss, settings, fun h => first (isOne.mp h),
    fun h => other (mt isOne.mpr h), fun c => ?_⟩
  · have written : ∀ (u : Receiver) (v : Monitor), (s.setReceiver d u).setMonitor d v =
        s.setDesk d { s.desk d with receiver := u, monitor := v } := by
      intro u v
      cases d <;> rfl
    simp only [exec, execLevelsFrame, receiveFrame_levels ready good fits, levelsArrive,
      State.setReceiver_desk_monitor, State.setReceiver_showClock, written]
    cases m.state <;> rfl
  · rw [Monitor.arrive_live, writeSlots_get, Monitor.writeBack_live]
    rfl

end Sys2Proof.Machine
end

section
/-! PROOFS. O14 and O40: the losses of a desk and its loss fade, and the settings of the scan and of the desks (R53,
R55 to R59, R61, R62, R67, R86). -/

namespace Sys2Proof.Machine

/-! ### O14: a silent desk is lost (R55, R56, R59) -/

theorem Monitor.liveLost_get (m : Monitor) (c : Fin 768) :
    m.liveLost.get c =
      if m.settings.lossAction = .hold ∨ (m.settings.lossAction = .fade ∧ 0 < m.settings.lossFadeTime) then
        m.live.get c
      else 0 := by
  unfold Monitor.liveLost
  split
  · rfl
  · exact Table.get_fill ..

theorem deskTimeoutLosesTheDesk : Clause.DeskTimeoutLosesTheDesk := by
  intro d s m fades
  refine ⟨fun t active arrived silent => ⟨m.liveLost, m.liveLost_get, ?_⟩, fun other => ?_⟩
  · have timedOut : m.timedOut s.showClock = true := Monitor.timedOut_iff.mpr ⟨active, t, arrived, silent⟩
    obtain ⟨still, -⟩ | ⟨-, lost⟩ := checkTimeout_cases d s
    · exact absurd timedOut (Bool.eq_false_iff.mp still)
    · simp only [exec, execDeskTimeout, lost, Monitor.lose_eq]
      rfl
  · obtain ⟨-, same⟩ | ⟨timedOut, -⟩ := checkTimeout_cases d s
    · exact congrArg Host.Outcome.next same
    · exact absurd (Monitor.timedOut_iff.mp timedOut) other

theorem lossFadeExpiryClearsTheArray : Clause.LossFadeExpiryClearsTheArray := by
  intro d s m
  refine ⟨fun x runs loss ended => ?_, fun other => ?_⟩
  · have expired : m.fadeExpired s.showClock = true := Monitor.fadeExpired_iff.mpr ⟨runs, x, loss, ended⟩
    obtain ⟨still, -⟩ | ⟨-, cleared⟩ := expireFade_cases d s
    · exact absurd expired (Bool.eq_false_iff.mp still)
    · exact congrArg Host.Outcome.next cleared
  · obtain ⟨-, same⟩ | ⟨expired, -⟩ := expireFade_cases d s
    · exact congrArg Host.Outcome.next same
    · exact absurd (Monitor.fadeExpired_iff.mp expired) other

/-! ### O14: the loss fade (R57, R58) -/

theorem fadedLevel_zero {t : Nat} (h : 0 < t) (live : Nat) : fadedLevel 0 t live = live := by
  rw [fadedLevel, if_pos h, Nat.sub_zero, Nat.mul_comm, Nat.mul_add_div h, Nat.div_eq_of_lt (by omega),
    Nat.add_zero]

/-- A loss fade never raises a level as time passes (R57). -/
theorem fadedLevel_antitone {e e' : Nat} (h : e ≤ e') (t live : Nat) :
    fadedLevel e' t live ≤ fadedLevel e t live := by
  unfold fadedLevel
  by_cases runs : e' < t
  · rw [if_pos runs, if_pos (by omega)]
    have left : live * (t - e') ≤ live * (t - e) := Nat.mul_le_mul_left live (by omega)
    exact Nat.div_le_div_right (by omega)
  · rw [if_neg runs]
    exact Nat.zero_le _

theorem lossFadeOnlyFalls : Clause.LossFadeOnlyFalls := fun e _ t live positive later =>
  ⟨fun runs => if_pos runs, fadedLevel_zero positive live, fadedLevel_antitone later t live,
    fadedLevel_le e t live, fun ended => if_neg ended.not_gt⟩

theorem elapsedTimeWraps : Clause.ElapsedTimeWraps := fun now past =>
  ⟨(now - past).isLt, by
    rw [elapsed, BitVec.ofNat_toNat, BitVec.setWidth_eq, BitVec.add_comm, BitVec.sub_add_cancel]⟩

/-- Settles O14: the monitor's two timed occurrences, each with its condition, and the arithmetic of the fade. -/
theorem deskLossIsCapturedAndFaded : Obligations.DeskLossIsCapturedAndFaded :=
  ⟨deskTimeoutLosesTheDesk, lossFadeExpiryClearsTheArray, lossFadeOnlyFalls, elapsedTimeWraps⟩

/-! ### O40: SET GRAND MASTER, BLACKOUT and SET SCAN (R67, R86) -/

/-- A clamp as a choice of the two ends (section 7.6). -/
theorem clamp_eq_ite {lo hi : Nat} (h : lo ≤ hi) (x : Nat) :
    clamp lo hi x = if x < lo then lo else if hi < x then hi else x := by
  split
  · exact clamp_of_lt (by assumption)
  · split
    · exact clamp_of_gt (by assumption) h
    · exact clamp_of_mem (by omega) (by omega)

theorem levelSettingsChangeAlone : Clause.LevelSettingsChangeAlone := by
  intro d tag x s
  refine ⟨fun free => ?_, fun free => ?_, fun free => ?_⟩
  · exact exec_done rfl free nofun (by simp only [perform, ownerSetGrandMaster, begun_level])
  · refine exec_done rfl free nofun ?_
    simp only [perform, ownerBlackout, State.setBlackout, begun_level, bYes, decide_eq_true_eq, ne_eq, ite_not]
  · intro taken
    have clamped : clamp 4 40 x.toNat = taken := clamp_eq_ite (by decide) _
    exact exec_done rfl free nofun (by simp only [perform, ownerSetScan, begun_level, clamped, b1])

/-! ### O40: SET DESK (R61, R62) -/

theorem LossAction.code_of_ofCode {n : Nat} {x : LossAction} (h : LossAction.ofCode n = some x) : x.code = n := by
  unfold LossAction.ofCode at h
  split at h <;> cases h <;> rfl

theorem Merge.code_of_ofCode {n : Nat} {x : Merge} (h : Merge.ofCode n = some x) : x.code = n := by
  unfold Merge.ofCode at h
  split at h <;> cases h <;> rfl

theorem Rights.code_of_ofCode {n : Nat} {x : Rights} (h : Rights.ofCode n = some x) : x.code = n := by
  unfold Rights.ofCode at h
  split at h <;> cases h <;> rfl

/-- The data of a SET DESK reply, from the codes that the request carried (R62). -/
theorem settingsBytes_of_codes {lossAction merge rights : Byte} {act : LossAction} {mrg : Merge} {rts : Rights}
    (hact : LossAction.ofCode lossAction.toNat = some act) (hmrg : Merge.ofCode merge.toNat = some mrg)
    (hrts : Rights.ofCode rights.toNat = some rts) (timeout fadeTime : Nat) :
    settingsBytes ⟨timeout, act, fadeTime, mrg, rts⟩ =
      b2 timeout ++ [lossAction] ++ b2 fadeTime ++ [merge, rights] := by
  simp only [settingsBytes, b1, LossAction.code_of_ofCode hact, Merge.code_of_ofCode hmrg,
    Rights.code_of_ofCode hrts, BitVec.ofNat_toNat, BitVec.setWidth_eq, List.append_assoc, List.cons_append,
    List.nil_append]

theorem LossAction.ofCode_eq_none {n : Nat} (h : 3 ≤ n) : LossAction.ofCode n = none := by
  unfold LossAction.ofCode
  split <;> first | rfl | omega

theorem Merge.ofCode_eq_none {n : Nat} (h : 2 ≤ n) : Merge.ofCode n = none := by
  unfold Merge.ofCode
  split <;> first | rfl | omega

theorem Rights.ofCode_eq_none {n : Nat} (h : 3 ≤ n) : Rights.ofCode n = Option.none := by
  unfold Rights.ofCode
  split <;> first | rfl | omega

section
variable {target : Byte} {x : Desk} {timeout : Half} {lossAction : Byte} {fadeTime : Half} {merge rights : Byte}
  {s : State}

/-- A value of SET DESK that is none of its named ones (R61, R62). -/
theorem ownerSetDesk_outOfRange (known : deskOfCode target.toNat = some x)
    (h : 3 ≤ lossAction.toNat ∨ 2 ≤ merge.toNat ∨ 3 ≤ rights.toNat) :
    ownerSetDesk target timeout lossAction fadeTime merge rights s = refuse s .outOfRange := by
  unfold ownerSetDesk
  rw [known]
  obtain h | h | h := h
  · rw [LossAction.ofCode_eq_none h]
  · rw [Merge.ofCode_eq_none h]
    cases LossAction.ofCode lossAction.toNat <;> rfl
  · rw [Rights.ofCode_eq_none h]
    cases LossAction.ofCode lossAction.toNat <;> cases Merge.ofCode merge.toNat <;> rfl

variable {act : LossAction} {mrg : Merge} {rts : Rights}

/-- SET DESK with a named action, merge setting and rights (R61, R62). -/
theorem ownerSetDesk_eq (known : deskOfCode target.toNat = some x)
    (hact : LossAction.ofCode lossAction.toNat = some act) (hmrg : Merge.ofCode merge.toNat = some mrg)
    (hrts : Rights.ofCode rights.toNat = some rts) :
    ownerSetDesk target timeout lossAction fadeTime merge rights s =
      if x = .A ∧ rts ≠ .full then refuse s .notPermitted
      else
        ⟨checkTimeout x (s.setMonitor x { (s.desk x).monitor with
            settings := ⟨clamp 100 5000 timeout.toNat, act, clamp 0 600 fadeTime.toNat, mrg, rts⟩ }), .done,
          b2 (clamp 100 5000 timeout.toNat) ++ [lossAction] ++ b2 (clamp 0 600 fadeTime.toNat) ++
            [merge, rights]⟩ := by
  simp only [ownerSetDesk, known, hact, hmrg, hrts, settingsBytes_of_codes hact hmrg hrts]

end

theorem setDeskTakesFiveSettings : Clause.SetDeskTakesFiveSettings := by
  intro d x tag target timeout lossAction fadeTime merge rights s r i free known s0
  refine ⟨fun bad => exec_refused rfl free nofun (ownerSetDesk_outOfRange known bad),
    fun act mrg rts hact hmrg hrts => ⟨fun deskA notFull => ?_, fun allowed => ?_⟩⟩
  · exact exec_refused rfl free nofun
      ((ownerSetDesk_eq known hact hmrg hrts).trans (if_pos ⟨deskA, notFull⟩))
  · intro ms tenths settings
    have timeoutTaken : clamp 100 5000 timeout.toNat = ms := clamp_eq_ite (by decide) _
    have fadeTaken : clamp 0 600 fadeTime.toNat = tenths :=
      (clamp_eq_ite (Nat.zero_le _) _).trans (if_neg (Nat.not_lt_zero _))
    have permitted : ¬(x = .A ∧ rts ≠ .full) := by
      rintro ⟨rfl, notFull⟩
      exact allowed.elim nofun notFull
    refine ⟨_, rfl, exec_done rfl free nofun ?_⟩
    refine (ownerSetDesk_eq known hact hmrg hrts).trans ?_
    rw [if_neg permitted, timeoutTaken, fadeTaken, begun_desk_monitor]

/-- Settles O40: each request writes its own settings, and SET DESK ends in the timeout's own occurrence. -/
theorem levelAndDeskSettingsAreTaken : Obligations.LevelAndDeskSettingsAreTaken :=
  ⟨levelSettingsChangeAlone, setDeskTakesFiveSettings⟩

end Sys2Proof.Machine
end

section
/-! PROOFS. O27: the characters of the frames that the part sends, and the flags of a reply (R46, R122, R169,
R174 to R177, R180). -/

namespace Sys2Proof.Machine

/-! ### Sums of bytes (R177) -/

/-- Bytes added modulo 256 give the sum of their numbers modulo 256 (R122, R177). -/
theorem foldl_add_ofNat (xs : List Nat) (start : Byte) :
    (xs.map (BitVec.ofNat 8)).foldl (· + ·) start = start + BitVec.ofNat 8 xs.sum := by
  induction xs generalizing start with
  | nil => simp
  | cons x rest ih =>
    rw [List.map_cons, List.foldl_cons, ih, List.sum_cons, BitVec.ofNat_add, BitVec.add_assoc]

/-- The check of some bytes is the sum of their numbers modulo 65,536 (R52, R177). -/
theorem checkSum_eq (bytes : List Byte) : checkSum bytes = BitVec.ofNat 16 (bytes.map (·.toNat)).sum := by
  suffices ∀ start : Half, bytes.foldl (fun a b => a + b.setWidth 16) start =
      start + BitVec.ofNat 16 (bytes.map (·.toNat)).sum from (this 0).trans (BitVec.zero_add _)
  induction bytes with
  | nil => simp
  | cons b rest ih =>
    intro start
    rw [List.foldl_cons, ih, List.map_cons, List.sum_cons, BitVec.ofNat_add, BitVec.add_assoc,
      BitVec.ofNat_toNat]

/-! ### Rack frames (R122, R174 to R177) -/

theorem rackBytes_eq (x : LinkSet) (a : Fin 4) :
    rackBytes x a = (List.finRange 96).map (fun slot => BitVec.ofNat 8 (slotValue x a slot)) ++
      [BitVec.ofNat 8 ((List.finRange 96).map (slotValue x a)).sum] := by
  have sum := (foldl_add_ofNat ((List.finRange 96).map (slotValue x a)) 0).trans (BitVec.zero_add _)
  rw [List.map_map] at sum
  unfold rackBytes
  rw [← sum]
  rfl

theorem sentFrame_length (header : Byte) (bytes : List Byte) :
    (sentFrame header bytes).length = bytes.length + 1 := by
  simp [sentFrame]

/-- The characters of a frame after its header, each unmarked with a good stop bit (R175). -/
theorem sentFrame_succ (header : Byte) (bytes : List Byte) (n : Nat) :
    (sentFrame header bytes)[n + 1]? = bytes[n]?.map fun b => ⟨b, false, true⟩ := by
  simp [sentFrame]

theorem rackFrameCarriesItsRack : Clause.RackFrameCarriesItsRack := by
  refine fun t => ⟨fun idle => ?_, fun a x sending current => ?_⟩
  · simp only [Transmitter.frame, idle]
  · intro value
    have same : value = slotValue x a := rfl
    refine ⟨sentFrame (headerOf 2 a.val) (rackBytes x a), ?_, ?_, rfl, fun slot => ?_, ?_⟩
    · simp only [Transmitter.frame, sending, current]
    · simp [sentFrame_length, rackBytes_eq]
    · rw [same, sentFrame_succ, rackBytes_eq, List.getElem?_append_left (by simp)]
      simp
    · rw [same, sentFrame_succ _ _ 96, rackBytes_eq, List.getElem?_append_right (by simp)]
      simp

/-! ### REPLY frames (R175 to R177, R180) -/

theorem replyFrameCarriesItsReply : Clause.ReplyFrameCarriesItsReply := by
  intro r _ high low outcome body check
  have code : b1 r.result.code = [outcome] := by
    simp only [outcome]
    cases r.result <;> rfl
  have bytes : [r.tag, r.code] ++ b1 r.result.code ++ [r.flags] ++ b2 r.data.length ++ r.data = body := by
    rw [code, b2_eq]
    rfl
  have sum : halfBytes (checkSum body) = [high check, low check] := by
    rw [checkSum_eq]
    exact b2_eq check
  have frame : replyFrame r = ⟨0x80, true, true⟩ ::
      (body ++ [high check, low check]).map (fun b => ⟨b, false, true⟩) := by
    simp only [replyFrame, replyBytes, bytes, sum]
    rfl
  refine ⟨frame, ?_⟩
  rw [frame]
  simp only [body, List.length_cons, List.length_map, List.length_append, List.length_nil]
  omega

/-! ### Reply flags and characters (R46, R169, R174, R176) -/

theorem flagBit_getLsbD {i : Nat} (h : i < 8) (b : Bool) (j : Nat) :
    (flagBit i b).getLsbD j = (b && decide (i = j)) := by
  cases b <;> simp [flagBit, BitVec.getLsbD_twoPow, h]

theorem replyFlags_getLsbD (s : State) (j : Nat) :
    (replyFlags s).getLsbD j =
      (!s.reports.queue.isEmpty && decide (0 = j) || s.reports.overrun && decide (1 = j) ||
        !s.memory.isValid && decide (2 = j) || s.memory.isStoring && decide (3 = j)) := by
  simp only [replyFlags, BitVec.getLsbD_or]
  rw [flagBit_getLsbD, flagBit_getLsbD, flagBit_getLsbD, flagBit_getLsbD] <;> decide

theorem ShowMemory.isValid_eq_false {m : ShowMemory} : m.isValid = false ↔ ∀ i, m ≠ .valid i := by
  cases m <;> simp [ShowMemory.isValid]

theorem ShowMemory.isStoring_iff {m : ShowMemory} : m.isStoring = true ↔ ∃ i since, m = .storing i since := by
  cases m <;> simp [ShowMemory.isStoring]

theorem replyFlagsShowTheirStates : Clause.ReplyFlagsShowTheirStates := by
  intro s bit
  simp only [bit, replyFlags_getLsbD]
  refine ⟨by simp, by simp, ?_, ?_, fun i high => ?_⟩
  · simp [ShowMemory.isValid_eq_false]
  · simp [ShowMemory.isStoring_iff]
  · have other : ∀ k < 4, decide (k = i) = false := fun k hk => decide_eq_false (by omega)
    simp [other]

theorem charactersAreElevenBits : Clause.CharactersAreElevenBits := fun x =>
  ⟨rfl, rfl, fun i => by simp [Character.bits, List.getElem?_append_left], rfl, rfl⟩

/-- Settles O27: the frames are sent byte by byte after their headers, and each sum is that of the bytes
before it. -/
theorem sentFramesCarryTheirFields : Obligations.SentFramesCarryTheirFields :=
  ⟨rackFrameCarriesItsRack, replyFrameCarriesItsReply, replyFlagsShowTheirStates, charactersAreElevenBits⟩

end Sys2Proof.Machine
end

section
/-! PROOFS. What a task and an owner write, said once, with the events that they raise after it: none touches the
phase, the held-request list but by an event, or the command processor, and none clears a holdoff mark (R76,
R143, R144, R156). -/

namespace Sys2Proof.Machine

/-- A state that is reached by one write, of which `W` holds, and then by events raised one after another. -/
def WroteThenRaised (raise : Event → State → State) (W : State → Prop) (t : State) : Prop :=
  ∃ es u, W u ∧ t = raiseAll raise es u

section
variable {raise : Event → State → State} {W : State → Prop}

theorem WroteThenRaised.wrote {t : State} (h : W t) : WroteThenRaised raise W t := ⟨[], t, h, rfl⟩

theorem WroteThenRaised.raised {t : State} (h : W t) (e : Event) : WroteThenRaised raise W (raise e t) :=
  ⟨[e], t, h, rfl⟩

theorem WroteThenRaised.imp {W' : State → Prop} {t : State} (h : WroteThenRaised raise W t)
    (k : ∀ u, W u → W' u) : WroteThenRaised raise W' t := by
  obtain ⟨es, u, hu, ht⟩ := h
  exact ⟨es, u, k u hu, ht⟩

/-- What the write makes true and every event keeps is true. -/
theorem WroteThenRaised.keeps {t : State} (h : WroteThenRaised raise W t)
    (hr : ∀ e s, W s → W (raise e s)) : W t := by
  obtain ⟨es, u, hu, rfl⟩ := h
  exact raiseAll_keeps hr es hu

end

/-! ### The writes of a task (R44, R138, R144) -/

/-- A task's own write, before its events: what an event can change, but for the held-request list and the
routes. -/
structure SameButTask (s t : State) : Prop where
  event : SameButEvents s t
  held : t.level.held = s.level.held
  routes : t.triggers.routes = s.triggers.routes

theorem SameButTask.rfl (s : State) : SameButTask s s := ⟨.rfl s, .refl _, .refl _⟩

theorem SameButTask.trans {s t u : State} (h : SameButTask s t) (k : SameButTask t u) : SameButTask s u :=
  ⟨h.event.trans k.event, k.held.trans h.held, k.routes.trans h.routes⟩

theorem SameButTask.report (e : Event) (s : State) : SameButTask s (s.report e) := ⟨.report e s, .refl _, .refl _⟩

theorem SameButTask.setPlayback (s : State) (p : Fin 6) (pb : Playback) : SameButTask s (s.setPlayback p pb) :=
  ⟨.setPlayback s p pb, .refl _, .refl _⟩

theorem SameButTask.setStaged (s : State) (x : Option Staged) : SameButTask s (s.setStaged x) :=
  ⟨.setStaged s x, .refl _, .refl _⟩

theorem SameButTask.setClock (s : State) (c : Fin 3) (x : CueClock) : SameButTask s (s.setClock c x) :=
  ⟨.setClock s c x, .refl _, .refl _⟩

theorem SameButTask.setBlackout (s : State) (on : Bool) : SameButTask s (s.setBlackout on) :=
  ⟨.setBlackout s on, .refl _, .refl _⟩

theorem SameButTask.goTaken (s : State) (p : Fin 6) : SameButTask s (s.goTaken p) := by
  obtain h | ⟨x, -, h⟩ := goTaken_cases p s <;> rw [h]
  · exact .rfl s
  · exact .setStaged s _

theorem SameButTask.moved (p : Fin 6) (m : Moved) (s : State) :
    SameButTask s (if m.taken then (s.setPlayback p m.playback).goTaken p else s.setPlayback p m.playback) := by
  split
  · exact (SameButTask.setPlayback s p m.playback).trans (.goTaken _ p)
  · exact .setPlayback s p m.playback


/-- A task is one write and then the events of a GO, if it is one; neither depends on how events are raised. -/
theorem takeTask_cases (r : Fin 16) (t : Task) (s : State) :
    ∃ es u, SameButTask s u ∧ ∀ raise, takeTask raise r t s = raiseAll raise es u := by
  have quiet : ∀ {u}, SameButTask s u → (∀ raise, takeTask raise r t s = u) →
      ∃ es u, SameButTask s u ∧ ∀ raise, takeTask raise r t s = raiseAll raise es u := fun h k => ⟨[], _, h, k⟩
  have taken : ∀ {p : Fin 6} {x : State × Result},
      ((∃ y, x = (s, y)) ∨ ∃ pb y, x = (s.setPlayback p pb, y)) → SameButTask s (taskTaken r x) := by
    intro p x h
    have write : SameButTask s x.1 := by
      obtain ⟨y, rfl⟩ | ⟨pb, y, rfl⟩ := h
      · exact .rfl s
      · exact .setPlayback s p pb
    unfold taskTaken
    split
    · exact write.trans (.report _ _)
    · exact write
  have clock : ∀ c a, SameButTask s (clockTask r c a s) := by
    intro c a
    unfold clockTask
    split
    · exact .setClock s c _
    · exact .report _ s
  match t with
  | .go p =>
    by_cases empty : (s.playbacks.get p).state = .empty
    · exact quiet (.report _ s) fun raise => taskTaken_refused (goPlayback_empty empty)
    · exact ⟨_, _, .moved p _ s, fun raise =>
        taskTaken_eq (goPlayback_taken empty (Eq.refl _)) (by split <;> decide)⟩
  | .pause p => exact quiet (taken (pausePlayback_cases p s)) fun _ => rfl
  | .resume p => exact quiet (taken (resumePlayback_cases p s)) fun _ => rfl
  | .release p => exact quiet (taken (releasePlayback_cases p s)) fun _ => rfl
  | .start c => exact quiet (clock c .start) fun _ => rfl
  | .continue c => exact quiet (clock c .continue) fun _ => rfl
  | .stop c => exact quiet (clock c .stop) fun _ => rfl
  | .stopAtMatch c => exact quiet (clock c .stopAtMatch) fun _ => rfl
  | .blackoutOn => exact quiet (.setBlackout s true) fun _ => rfl
  | .blackoutOff => exact quiet (.setBlackout s false) fun _ => rfl
  | .swapNow =>
    refine quiet (u := swapNow r s) ?_ fun _ => rfl
    unfold swapNow
    split
    · exact .setStaged s _
    · exact .report _ s

theorem takeTask_wrote (raise : Event → State → State) (r : Fin 16) (t : Task) (s : State) :
    WroteThenRaised raise (SameButTask s) (takeTask raise r t s) := by
  obtain ⟨es, u, h, k⟩ := takeTask_cases r t s
  exact ⟨es, u, h, k raise⟩

/-- A request to a playback is one write and then its events (R24, R26, R28). -/
theorem playbackOwner_cases {r : Request} (h : r.onPlayback = true) (s : State) :
    WroteThenRaised raiseEvent (SameButTask s) (perform r s).state := by
  have still : WroteThenRaised raiseEvent (SameButTask s) s := .wrote (.rfl s)
  have set : ∀ p pb, WroteThenRaised raiseEvent (SameButTask s) (s.setPlayback p pb) :=
    fun p pb => .wrote (.setPlayback s p pb)
  have written : ∀ {p : Fin 6} {x : State × Result},
      ((∃ y, x = (s, y)) ∨ ∃ pb y, x = (s.setPlayback p pb, y)) →
      WroteThenRaised raiseEvent (SameButTask s) x.1 := by
    rintro p x (⟨y, rfl⟩ | ⟨pb, y, rfl⟩)
    · exact still
    · exact set p pb
  have moved : ∀ {p : Fin 6} {x : State × Result},
      ((∃ y, x = (s, y)) ∨ ∃ m y, x = (applyMoved raiseEvent p m s, y)) →
      WroteThenRaised raiseEvent (SameButTask s) x.1 := by
    rintro p x (⟨y, rfl⟩ | ⟨m, y, rfl⟩)
    · exact still
    · exact ⟨m.events, _, .moved p m s, Eq.refl _⟩
  have request : ∀ {n : Byte} {take : Fin 6 → State × Result},
      (∀ p, WroteThenRaised raiseEvent (SameButTask s) (take p).1) →
      WroteThenRaised raiseEvent (SameButTask s) (playbackRequest n s take).state := by
    intro n take k
    unfold playbackRequest
    split
    · exact still
    · exact k _
  cases r with
  | go p => exact request fun p => moved (goPlayback_cases raiseEvent p s)
  | goto p cue ovr => exact request fun p => moved (gotoPlayback_cases raiseEvent p cue ovr s)
  | back p => exact request fun p => moved (backPlayback_cases raiseEvent p s)
  | pause p => exact request fun p => written (pausePlayback_cases p s)
  | resume p => exact request fun p => written (resumePlayback_cases p s)
  | release p => exact request fun p => written (releasePlayback_cases p s)
  | loadList p list =>
    refine request fun p => ?_
    simp only [loadListPlayback]
    (repeat' split) <;> first | exact still | exact set p _
  | unload p =>
    refine request fun p => ?_
    simp only [unloadPlayback]
    (repeat' split) <;> first | exact still | exact set p _
  | setMaster p x => exact request fun p => set p _
  | setRate p x =>
    simp only [perform, ownerSetRate]
    split
    · exact still
    · exact set _ _
  | setPlaybackTimes p x y =>
    refine request fun p => ?_
    simp only [setTimesPlayback]
    split
    · exact still
    · exact set p _
  | _ => cases h


/-! ### The held-request list through an owner (R76, R156) -/

/-- The scan in progress is the same in two states: its phase, timer, inputs and values, the moment and the
queue; and every holdoff mark that is set stays set. -/
structure SameScan (s t : State) : Prop where
  phase : t.level.phase = s.level.phase
  timer : t.level.timer = s.level.timer
  bank : t.level.activeBank = s.level.activeBank
  latch : t.level.latch = s.level.latch
  work : t.level.work = s.level.work
  showClock : t.showClock = s.showClock
  pending : t.pending = s.pending
  marks : ∀ r, (s.triggers.routes.get r).holdoff = true → (t.triggers.routes.get r).holdoff = true

theorem SameScan.rfl (s : State) : SameScan s s :=
  ⟨.refl _, .refl _, .refl _, .refl _, .refl _, .refl _, .refl _, fun _ => id⟩

theorem SameScan.trans {s t u : State} (h : SameScan s t) (k : SameScan t u) : SameScan s u :=
  ⟨k.phase.trans h.phase, k.timer.trans h.timer, k.bank.trans h.bank, k.latch.trans h.latch, k.work.trans h.work,
    k.showClock.trans h.showClock, k.pending.trans h.pending, fun r m => k.marks r (h.marks r m)⟩

/-- The scan in progress, the held-request list and the processor are the same. -/
structure SameHeld (s t : State) : Prop extends SameScan s t where
  held : t.level.held = s.level.held
  processor : t.processor = s.processor

theorem SameHeld.trans {s t u : State} (h : SameHeld s t) (k : SameHeld t u) : SameHeld s u :=
  ⟨h.toSameScan.trans k.toSameScan, k.held.trans h.held, k.processor.trans h.processor⟩

/-- A write of other fields. -/
theorem SameHeld.write {s t : State} (phase : t.level.phase = s.level.phase := by rfl)
    (timer : t.level.timer = s.level.timer := by rfl) (bank : t.level.activeBank = s.level.activeBank := by rfl)
    (latch : t.level.latch = s.level.latch := by rfl) (work : t.level.work = s.level.work := by rfl)
    (showClock : t.showClock = s.showClock := by rfl) (pending : t.pending = s.pending := by rfl)
    (held : t.level.held = s.level.held := by rfl) (processor : t.processor = s.processor := by rfl)
    (routes : t.triggers.routes = s.triggers.routes := by rfl) : SameHeld s t :=
  ⟨⟨phase, timer, bank, latch, work, showClock, pending, fun r m => by rw [routes]; exact m⟩, held, processor⟩

theorem SameButTask.sameHeld {s t : State} (h : SameButTask s t) : SameHeld s t := by
  obtain ⟨_, _, _, level⟩ := h.event.level
  exact .write (by rw [level]) (by rw [level]) (by rw [level]) (by rw [level]) (by rw [level]) h.event.showClock
    h.event.pending h.held h.event.processor h.routes

theorem SameHeld.setPort (s : State) (d : Desk) (p : Port) : SameHeld s (s.setPort d p) := by
  cases d <;> exact .write

theorem SameHeld.setMonitor (s : State) (d : Desk) (m : Monitor) : SameHeld s (s.setMonitor d m) := by
  cases d <;> exact .write

theorem SameHeld.setReceiver (s : State) (d : Desk) (r : Receiver) : SameHeld s (s.setReceiver d r) := by
  cases d <;> exact .write

theorem SameHeld.setContact (s : State) (c : Fin 4) (x : Contact) : SameHeld s (s.setContact c x) := .write

theorem SameHeld.setRoute {s : State} {r : Fin 16} {x : Route}
    (h : (s.triggers.routes.get r).holdoff = true → x.holdoff = true) : SameHeld s (s.setRoute r x) := by
  refine ⟨{ SameScan.rfl s with marks := fun k m => ?_ }, rfl, rfl⟩
  rw [State.setRoute_triggers, Table.get_set]
  split
  · subst_vars
    exact h m
  · exact m

theorem checkTimeout_sameHeld (d : Desk) (s : State) :
    WroteThenRaised raiseEvent (SameHeld s) (checkTimeout d s) := by
  obtain ⟨-, h⟩ | ⟨-, h⟩ := checkTimeout_cases d s <;> rw [h]
  · exact .wrote .write
  · exact .raised (.setMonitor s d _) _

theorem acceptContact_sameHeld (c : Fin 4) (s : State) :
    WroteThenRaised raiseEvent (SameHeld s) (acceptContact c s) := by
  obtain h | h := acceptContact_cases c s <;> rw [h]
  · exact .wrote (.setContact s c _)
  · exact .raised (.setContact s c _) _

theorem debounceEnd_sameHeld (c : Fin 4) (s : State) :
    WroteThenRaised raiseEvent (SameHeld s) (debounceEnd c s) := by
  unfold debounceEnd
  split
  · exact acceptContact_sameHeld c s
  · exact .wrote .write

/-- An owner's write leaves the scan in progress and the held-request list as they are; only its events, raised
after it, can add to the list. -/
theorem perform_sameHeld (r : Request) (s : State) :
    WroteThenRaised raiseEvent (SameHeld s) (perform r s).state := by
  have after : ∀ {u v : State}, SameHeld s u → WroteThenRaised raiseEvent (SameHeld u) v →
      WroteThenRaised raiseEvent (SameHeld s) v := fun h k => k.imp fun _ => h.trans
  cases r with
  | go | goto | back | pause | resume | release | loadList | unload | setMaster | setRate
  | setPlaybackTimes => exact (playbackOwner_cases rfl s).imp fun _ h => h.sameHeld
  | setDesk d t act fade mrg rts =>
    simp only [perform, ownerSetDesk]
    (repeat' split) <;>
      first
        | exact .wrote .write
        | exact after (.setMonitor s _ _) (checkTimeout_sameHeld _ _)
  | setContact c e t =>
    simp only [perform, ownerSetContact]
    (repeat' split) <;>
      first
        | exact .wrote .write
        | exact after (.setContact s _ _) (debounceEnd_sameHeld _ _)
  | readDesk d c =>
    simp only [perform, ownerReadDesk]
    (repeat' split) <;> first | exact .wrote .write | exact .wrote (.setReceiver s _ _)
  | setRoute r en sk ss tk tt =>
    simp only [perform, ownerSetRoute]
    (repeat' split) <;> first | exact .wrote .write | exact .wrote (.setRoute id)
  | _ =>
    simp only [perform, ownerWriteCue, writeCheckedCue, ownerDeleteCue, ownerClearList, ownerSetCircuit,
      ownerCopyBank, ownerClearBank, ownerSelectBank, ownerCancelSwap, ownerLoadLaw, ownerPark, ownerUnpark,
      ownerUnparkAll, ownerSetGrandMaster, ownerBlackout, ownerSetScan, ownerSetLink, ownerSetClock,
      ownerClockAction, ownerSetWatch, ownerTakeReports, ownerSetReportMask, ownerClearFlags,
      ownerStore, ownerReadStatus, ownerReadPlayback, ownerReadChannel, ownerReadCircuit, ownerReadCue,
      ownerReadBankEntry, ownerReadLaw, ownerReadTriggers, refuse]
    (repeat' split) <;> exact .wrote .write

end Sys2Proof.Machine
end

section
/-! PROOFS. O58: every step keeps the held-request list. While the phase is COMPUTING an event appends the task of
a route whose mark it sets, and the IDLE processor one command; compute end, already WAITING, takes the list from
its head and nothing joins it (R66, R76, R77, R143). -/

namespace Sys2Proof.Machine

/-! ### What an event can do to the held-request list -/

/-- A predicate on the held-request list: it does not change with fields that the rules of the list do not speak
of, and is kept when a task is held at the firing of its route. -/
structure KeptByHolding (P : State → Prop) : Prop where
  same : ∀ {s t}, SameHeld s t → P s → P t
  hold : ∀ {s} r t, P s → s.level.phase = .computing → (s.triggers.routes.get r).holdoff = false →
    P ((s.setRoute r { s.triggers.routes.get r with holdoff := true }).setHeld (s.level.held ++ [.task r t]))

section
variable {P : State → Prop}

theorem KeptByHolding.wrote (h : KeptByHolding P) {raise : Event → State → State}
    (hr : ∀ e s, P s → P (raise e s)) {s t : State} (hs : P s) (k : WroteThenRaised raise (SameHeld s) t) : P t :=
  (k.imp fun _ same => h.same same hs).keeps hr

theorem KeptByHolding.task (h : KeptByHolding P) {raise : Event → State → State}
    (hr : ∀ e s, P s → P (raise e s)) (r : Fin 16) (t : Task) {s : State} (hs : P s) :
    P (takeTask raise r t s) :=
  h.wrote hr hs ((takeTask_wrote raise r t s).imp fun _ k => k.sameHeld)

theorem KeptByHolding.event (h : KeptByHolding P) (e : Event) (s : State) (hs : P s) : P (raiseEvent e s) := by
  refine raiseWithin_keeps (fun e s k => h.same (SameButTask.report e s).sameHeld k)
    (fun raise hr r s k clear => ?_) _ e s hs
  unfold issueTask
  split
  · exact h.hold r _ k (by assumption) clear
  · exact h.task hr r _ (h.same (.setRoute fun _ => rfl) k)

theorem KeptByHolding.raised (h : KeptByHolding P) {s t : State} (hs : P s)
    (k : WroteThenRaised raiseEvent (SameHeld s) t) : P t := h.wrote h.event hs k

theorem KeptByHolding.owner (h : KeptByHolding P) (r : Request) {s : State} (hs : P s) : P (perform r s).state :=
  h.raised hs (perform_sameHeld r s)

end

/-! ### The parts of compute end -/

theorem postSets_sameHeld (s : State) : SameHeld s (postSets s) := by
  have skipped : ∀ links {u : State}, SameHeld s u → SameHeld s (raiseSkipped links u) := fun links _ hu =>
    foldl_keeps (fun v _ k => k.trans (SameButTask.report _ v).sameHeld) links hu
  unfold postSets raiseSkippedFreely
  simp only
  split
  · exact .write
  · exact skipped _ .write
  · exact skipped _ .write

theorem darkTest_sameHeld (s : State) : SameHeld s (darkTest s) := by
  unfold darkTest
  simp only
  (repeat' split) <;> exact .write

theorem writeRecord_sameHeld (s : State) : SameHeld s (writeRecord s) := .write

theorem KeptByHolding.swapDone {P : State → Prop} (h : KeptByHolding P) {s : State} (hs : P s) :
    P (swapDone s) := by
  unfold Machine.swapDone
  split
  · rename_i before _
    have raised := h.event ⟨.swapDone, numbered s.level.activeBank, numbered before⟩ s hs
    generalize raiseEvent _ s = u at raised ⊢
    exact h.same .write raised
  · exact hs

theorem KeptByHolding.scanWorkEvents {P : State → Prop} (h : KeptByHolding P) {s : State} (hs : P s) :
    P (scanWorkEvents s) := h.raised hs ⟨_, _, .write, rfl⟩

theorem KeptByHolding.evaluateWatch {P : State → Prop} (h : KeptByHolding P) (w : Fin 8) {s : State} (hs : P s) :
    P (evaluateWatch s w) := by
  unfold Machine.evaluateWatch
  simp only
  split
  · exact h.raised hs (.raised .write _)
  · exact h.same .write hs

/-- The phase is WAITING and these requests are held: what is true while compute end takes the held requests
(R77). -/
def StillHeld (held : List Held) (s : State) : Prop := s.level.phase = .waiting ∧ s.level.held = held

/-- Nothing is held while the phase is WAITING (R144). -/
theorem StillHeld.keptByHolding (held : List Held) : KeptByHolding (StillHeld held) where
  same k h := ⟨k.phase.trans h.1, k.held.trans h.2⟩
  hold _ _ h computing _ := by
    rw [h.1] at computing
    cases computing

theorem StillHeld.takeHeld {held : List Held} {s : State} (h : StillHeld held s) (x : Held) :
    StillHeld held (takeHeld x s) := by
  have keeps := StillHeld.keptByHolding held
  cases x with
  | command d c r =>
    obtain ⟨phase, list⟩ := keeps.owner r (s := s.setProcessor (.executing d)) h
    exact ⟨by simpa [Machine.takeHeld, answer, addReply, State.setProcessor] using phase,
      by simpa [Machine.takeHeld, answer, addReply, State.setProcessor] using list⟩
  | task r t => exact keeps.task keeps.event r t h

/-- The held requests are taken until none is left (R77). -/
theorem StillHeld.takeHeldAll {held : List Held} {s : State} (h : StillHeld held s) :
    StillHeld [] (takeHeldAll held s) := by
  induction held generalizing s with
  | nil => exact h
  | cons x rest ih =>
    have left : StillHeld rest (s.setHeld rest) := ⟨h.1, rfl⟩
    exact ih (left.takeHeld x)

/-- Compute end up to the taking of a waiting command. -/
def scanEnded (s : State) : State :=
  writeRecord (evaluateWatches (scanWorkEvents (swapDone (darkTest (takeHeldAll s.level.held
    (postSets { s with level := { s.level with phase := .waiting } }))))))

theorem computeEnd_eq (s : State) : computeEnd s = arbitrate (scanEnded s) := by
  unfold computeEnd scanEnded
  simp only [(postSets_sameHeld { s with level := { s.level with phase := .waiting } }).held]

theorem StillHeld.scanEnded (s : State) : StillHeld [] (scanEnded s) := by
  have keeps := StillHeld.keptByHolding []
  have posted : StillHeld s.level.held (postSets { s with level := { s.level with phase := .waiting } }) :=
    (StillHeld.keptByHolding _).same (postSets_sameHeld _) ⟨rfl, rfl⟩
  have raised := keeps.scanWorkEvents (keeps.swapDone (keeps.same (darkTest_sameHeld _) posted.takeHeldAll))
  exact keeps.same (writeRecord_sameHeld _) (foldl_keeps (fun _ w k => keeps.evaluateWatch w k) _ raised)

/-! ### The invariant -/

theorem HeldInv.of_none {s : State} (h : s.level.held = []) : HeldInv s where
  waiting _ := h
  commands := by simp [h, heldCommands]
  routes := by simp [h, heldRoutes]
  marks r hr := by simp [h, heldRoutes] at hr

theorem heldRoutes_append_task (held : List Held) (r : Fin 16) (t : Task) :
    heldRoutes (held ++ [.task r t]) = heldRoutes held ++ [r] := by
  simp [heldRoutes]

theorem heldCommands_append_task (held : List Held) (r : Fin 16) (t : Task) :
    heldCommands (held ++ [.task r t]) = heldCommands held := by
  simp [heldCommands]

theorem heldRoutes_append_command (held : List Held) (d : Desk) (c : Command) (r : Request) :
    heldRoutes (held ++ [.command d c r]) = heldRoutes held := by
  simp [heldRoutes]

theorem heldCommands_append_command (held : List Held) (d : Desk) (c : Command) (r : Request) :
    heldCommands (held ++ [.command d c r]) = heldCommands held + 1 := by
  simp [heldCommands]

/-- A route whose mark is clear has no task in the list, so the one that it now issues is its only one (R143). -/
theorem HeldInv.keptByHolding : KeptByHolding HeldInv where
  same {s t} k h :=
    { waiting := fun w => by rw [k.held]; exact h.waiting (k.phase.symm.trans w)
      commands := by rw [k.held, k.processor]; exact h.commands
      routes := by rw [k.held]; exact h.routes
      marks := fun r hr => k.marks r (h.marks r (by rwa [k.held] at hr)) }
  hold {s} r t h computing clear := by
    have fresh : r ∉ heldRoutes s.level.held := fun hr => by
      have set := h.marks r hr
      rw [clear] at set
      cases set
    constructor
    · intro waiting
      rw [State.setHeld_level, State.setRoute_level] at waiting
      rw [computing] at waiting
      cases waiting
    · simp only [State.setHeld_level, State.setHeld_processor, State.setRoute_processor, heldCommands_append_task]
      exact h.commands
    · simp only [State.setHeld_level, heldRoutes_append_task]
      exact List.nodup_append.mpr ⟨h.routes, List.nodup_singleton r,
        fun a ha b hb => by rintro rfl; exact fresh (by rwa [List.mem_singleton.mp hb] at ha)⟩
    · simp only [State.setHeld_level, State.setHeld_triggers, State.setRoute_triggers, heldRoutes_append_task]
      intro x hx
      rw [Table.get_set]
      split
      · rfl
      · rename_i other
        obtain hx | hx := List.mem_append.mp hx
        · exact h.marks x hx
        · exact absurd (List.mem_singleton.mp hx).symm other

/-! ### Commands (R151, R156) -/

/-- A processor that is HOLDING no command may go to any state. -/
theorem HeldInv.withProcessor {s : State} (h : HeldInv s) (free : s.processor.state.isHolding = false)
    (p : Processor) : HeldInv { s with processor := p } where
  waiting := h.waiting
  commands := by
    have none : heldCommands s.level.held ≤ 0 := by simpa [free] using h.commands
    exact none.trans (Nat.zero_le _)
  routes := h.routes
  marks := h.marks

theorem HeldInv.setPort {s : State} (h : HeldInv s) (d : Desk) (p : Port) : HeldInv (s.setPort d p) :=
  keptByHolding.same (.setPort s d p) h

theorem HeldInv.answer {d : Desk} {c : Command} {a : Answer} (h : HeldInv a.state)
    (free : a.state.processor.state.isHolding = false) : HeldInv (answer d c a) :=
  ((h.setPort _ _).setPort _ _).withProcessor (by simpa using free) _

theorem HeldInv.holdCommand {s : State} (h : HeldInv s) (computing : s.level.phase = .computing)
    (free : s.processor.state.isHolding = false) (d : Desk) (c : Command) (r : Request) :
    HeldInv ((s.setHeld (s.level.held ++ [.command d c r])).setProcessor (.holding d)) where
  waiting w := by
    have computing' : Phase.waiting = .computing := w.symm.trans computing
    cases computing'
  commands := by
    have none : heldCommands s.level.held ≤ 0 := by simpa [free] using h.commands
    simp only [State.setProcessor_level, State.setHeld_level, heldCommands_append_command]
    exact Nat.succ_le_succ none
  routes := by
    simp only [State.setProcessor_level, State.setHeld_level, heldRoutes_append_command]
    exact h.routes
  marks x hx := by
    simp only [State.setProcessor_level, State.setHeld_level, heldRoutes_append_command] at hx
    exact h.marks x hx

/-- The IDLE processor takes a command: answered, or held as the only one. -/
theorem HeldInv.takeCommand {s : State} (h : HeldInv s) (idle : s.processor.state = .idle) (d : Desk)
    (c : Command) : HeldInv (takeCommand d c s) := by
  have begun : HeldInv (beginCommand d c s) :=
    (h.setPort _ _).withProcessor (by simp [idle, ProcessorState.isHolding]) _
  have free : (beginCommand d c s).processor.state.isHolding = false := rfl
  unfold Machine.takeCommand dispatch
  simp only
  split
  · exact HeldInv.answer begun free
  · rename_i r _
    split
    · rename_i held
      exact begun.holdCommand held.1 free d c r
    · split
      · exact (begun.setPort _ _).setPort _ _
      · refine HeldInv.answer (keptByHolding.owner r begun) ?_
        rw [(perform_samePorts r _).processor]
        exact free

theorem HeldInv.arbitrate {s : State} (h : HeldInv s) : HeldInv (arbitrate s) := by
  suffices ∀ n s, HeldInv s → HeldInv (arbitrateWithin n s) from this 2 s h
  intro n
  induction n with
  | zero => exact fun _ h => h
  | succ n ih =>
    intro s h
    unfold arbitrateWithin
    split
    · rename_i d c next
      exact ih _ (h.takeCommand (nextCommand_eq_some.mp next).1 d c)
    · exact h

theorem HeldInv.commandArrives {s : State} (h : HeldInv s) (d : Desk) (c : Command) :
    HeldInv (commandArrives d c s) := by
  unfold Machine.commandArrives
  split
  · exact (h.setPort _ _).arbitrate
  all_goals
    split
    · exact h.setPort _ _
    · exact h

/-! ### The occurrences -/

theorem HeldInv.computeEnd (s : State) : HeldInv (computeEnd s) := by
  rw [computeEnd_eq]
  exact (HeldInv.of_none (StillHeld.scanEnded s).2).arbitrate

/-- A scan start finds the list empty, so the marks that it clears belong to no task in it (R71, R76). -/
theorem HeldInv.scanStart {s : State} (h : HeldInv s) (waiting : s.level.phase = .waiting) :
    HeldInv (scanStart s) := by
  rw [scanStart_eq]
  exact .of_none (h.waiting waiting)

theorem HeldInv.replyDone {s : State} (h : HeldInv s) (d : Desk) : HeldInv (replyDone d s) := by
  unfold Machine.replyDone
  split
  · exact h
  · simp only
    split
    · exact h.setPort _ _
    · exact h.setPort _ _
    · exact (h.setPort _ _).setPort _ _
    · exact .of_none rfl

theorem HeldInv.restartMoment {s : State} (h : HeldInv s) : HeldInv (restartMoment s) := by
  unfold Machine.restartMoment
  split
  · exact .of_none rfl
  · exact h

theorem levelsArrive_sameHeld (d : Desk) (base : Nat) (levels : List Byte) (s : State) :
    WroteThenRaised raiseEvent (SameHeld s) (levelsArrive d base levels s) := by
  unfold levelsArrive
  simp only
  split
  · exact .raised (.setMonitor s d _) _
  · exact .wrote (.setMonitor s d _)

theorem changeContact_sameHeld (c : Fin 4) (high : Bool) (s : State) :
    WroteThenRaised raiseEvent (SameHeld s) (changeContact c high s) := by
  unfold changeContact
  simp only
  split
  · exact .wrote .write
  · split
    · exact .wrote (.setContact s c _)
    · split
      · exact (acceptContact_sameHeld c _).imp fun _ => (SameHeld.setContact s c _).trans
      · exact .wrote (.setContact s c _)

theorem owedAdvance_sameHeld (c : Fin 3) (s : State) :
    WroteThenRaised raiseEvent (SameHeld s) (owedAdvance c s) := by
  unfold owedAdvance
  split
  · obtain ⟨-, h⟩ | ⟨detail, -, h⟩ := advanceClock_cases c s <;> rw [h]
    · exact .wrote .write
    · exact .raised .write _
  · exact .wrote .write

theorem expireFade_sameHeld (d : Desk) (s : State) : SameHeld s (expireFade d s) := by
  obtain ⟨-, h⟩ | ⟨-, h⟩ := expireFade_cases d s <;> rw [h]
  · exact .write
  · exact .setMonitor s d _

theorem storeCompleted_sameHeld (s : State) :
    WroteThenRaised raiseEvent (SameHeld s) (storeCompleted s) := by
  unfold storeCompleted
  split
  · exact .raised .write _
  · exact .wrote .write
  · exact .wrote .write

theorem storeFaulted_sameHeld (s : State) : WroteThenRaised raiseEvent (SameHeld s) (storeFaulted s) := by
  unfold storeFaulted
  split
  · exact .raised .write _
  · exact .wrote .write
  · exact .wrote .write

/-- Every occurrence keeps the held-request list as R76 and R77 give it. -/
theorem HeldInv.keptByOccurrences : KeptByOccurrences HeldInv where
  queue _ _ h := ⟨h.waiting, h.commands, h.routes, h.marks⟩
  choice _ _ h := keptByHolding.same .write h
  power _ _ := .of_none rfl
  millisecond _ h := ⟨h.waiting, h.commands, h.routes, h.marks⟩
  receiver d _ s h := keptByHolding.same (.setReceiver s d _) h
  levels d base levels s h := keptByHolding.raised h (levelsArrive_sameHeld d base levels s)
  command d c _ h := h.commandArrives d c
  timeout d s h := keptByHolding.raised h (checkTimeout_sameHeld d s)
  lossFade d s h := keptByHolding.same (expireFade_sameHeld d s) h
  reply d _ h := h.replyDone d
  restart _ h := h.restartMoment
  scan _ waiting _ h := h.scanStart waiting
  compute s _ _ := .computeEnd s
  frame _ _ h := keptByHolding.same .write h
  refresh _ _ h := keptByHolding.same .write h
  input c high s h := keptByHolding.raised h (changeContact_sameHeld c high s)
  debounce c s h := keptByHolding.raised h (debounceEnd_sameHeld c s)
  clock c s h := keptByHolding.raised h (owedAdvance_sameHeld c s)
  stored s h := keptByHolding.raised h (storeCompleted_sameHeld s)
  faulted s h := keptByHolding.raised h (storeFaulted_sameHeld s)

/-- Every held request is a command or the task of a route. -/
theorem held_length (held : List Held) : held.length = heldCommands held + (heldRoutes held).length := by
  induction held with
  | nil => rfl
  | cons x rest ih =>
    have counted := ih
    unfold heldCommands heldRoutes at counted
    cases x with
    | command d c r =>
      simp [heldCommands, heldRoutes]
      omega
    | task r t =>
      simp [heldCommands, heldRoutes]
      omega

/-- One command and one task of each of the sixteen routes. -/
theorem HeldInv.held_length_le {s : State} (h : HeldInv s) : s.level.held.length ≤ 17 := by
  have routes : (heldRoutes s.level.held).length ≤ 16 := by
    simpa using h.routes.length_le_card
  have commands : heldCommands s.level.held ≤ 1 := h.commands.trans (by split <;> decide)
  rw [held_length]
  omega

/-- Settles O58: every occurrence keeps the list, and every step is made of occurrences. -/
theorem stepKeepsTheHeldRequests : Obligations.StepKeepsTheHeldRequests :=
  ⟨fun _ _ h step => step_keeps HeldInv.keptByOccurrences h step, fun _ h => h.held_length_le⟩

end Sys2Proof.Machine
end

section
/-! PROOFS. O37, O6 and O23: staged swaps, a request of a held class while the phase is COMPUTING, and the held
requests and waiting commands that compute end has taken in turn (R69, R76 to R78, R97 to R99, R151, R156). -/

namespace Sys2Proof.Machine

/-! ### O37: SELECT BANK and CANCEL SWAP (R97 to R99) -/

/-- The bytes of the swap that a staging replaces, zeros when there is none (R97). -/
def replacedBytes (x : Option Staged) : List Byte :=
  match x with
  | some old => 1 :: swapBytes old
  | none => [0, 0, 0]

section
variable {bank method playback : Byte} {b : Fin 4}

theorem ownerSelectBank_staged {m : Method} (hb : number 4 bank.toNat = some b)
    (hm : readMethod method playback = .ok m) (s : State) :
    ownerSelectBank bank method playback s =
      ⟨s.setStaged (some ⟨b, m, decide (m = .nextScan)⟩), .done,
        stagedBytes ⟨b, m, decide (m = .nextScan)⟩ ++ replacedBytes s.level.staged⟩ := by
  simp only [ownerSelectBank, hb, hm]
  rfl

theorem ownerSelectBank_refused {x : Result} (hb : number 4 bank.toNat = some b)
    (hm : readMethod method playback = .error x) (s : State) :
    ownerSelectBank bank method playback s = refuse s x := by
  simp only [ownerSelectBank, hb, hm]

theorem readMethod_atGo (playback : Byte) : readMethod 2 playback =
    match number 6 playback.toNat with
    | some p => .ok (.atGo p)
    | none => .error .noSuch := rfl

theorem readMethod_outOfRange (h : 3 < method.toNat) : readMethod method playback = .error .outOfRange := by
  unfold readMethod
  split
  · omega
  · omega
  · omega
  · omega
  · rfl

end

/-- Settles O37: the method is read first, and the staging or the refusal follows from it. -/
theorem swapsAreStagedAndCancelled : Obligations.SwapsAreStagedAndCancelled := by
  intro d tag s replaced
  refine ⟨fun bank method playback b h hb => ?_, fun h => ⟨fun none => ?_, fun x hx => ?_⟩⟩
  · have replace : replacedBytes (begun d tag (.selectBank bank method playback) s).level.staged = replaced := by
      rw [begun_level]
      rfl
    intro r i s0 staged
    have stages : ∀ m, readMethod method playback = .ok m → staged m (decide (m = .nextScan)) := fun m hm =>
      exec_done rfl h nofun ((ownerSelectBank_staged hb hm s0).trans (by rw [replace]))
    have refuses : ∀ x, readMethod method playback = .error x →
        exec i s = .next (answered d tag r x [] s0) := fun x hm =>
      exec_refused rfl h nofun (ownerSelectBank_refused hb hm s0)
    refine ⟨?_, ?_, ?_, fun p hm hp => ?_, fun hm hp => ?_, fun high => refuses _ (readMethod_outOfRange high)⟩
    · rintro rfl
      exact stages .nextScan rfl
    · rintro rfl
      exact stages .atDark rfl
    · rintro rfl
      exact stages .onTask rfl
    · subst hm
      exact stages (.atGo p) (by rw [readMethod_atGo, hp])
    · subst hm
      exact refuses .noSuch (by rw [readMethod_atGo, hp])
  · exact exec_refused rfl h nofun (by simp only [perform, ownerCancelSwap, begun_level, none])
  · exact exec_done rfl h nofun (by simp only [perform, ownerCancelSwap, begun_level, hx])

/-! ### A command taken by the processor (R151, R152, R156, R159) -/

section
variable {d : Desk} {c : Command} {r : Request} {s : State}

theorem beginCommand_eq (d : Desk) (c : Command) (s : State) : beginCommand d c s = begunAs d c s := rfl

theorem takeCommand_refused {why : Result} (h : checkCommand d c (begunAs d c s) = .error why) :
    takeCommand d c s = answeredAs d c why [] (begunAs d c s) := by
  simp only [takeCommand, beginCommand_eq, h]
  rw [answer_eq_answeredAs (by rfl)]
  simp only [refuse, replyData_nil]

theorem takeCommand_dispatched (h : checkCommand d c (begunAs d c s) = .ok r) :
    takeCommand d c s = dispatch d c r (begunAs d c s) := by
  simp only [takeCommand, beginCommand_eq, h]

/-- A command of a held class joins the list at its tail while the phase is COMPUTING (R76, R156). -/
theorem takeCommand_held (h : checkCommand d c (begunAs d c s) = .ok r) (computing : s.level.phase = .computing)
    (held : r.isHeld (begunAs d c s) = true) :
    takeCommand d c s =
      { begunAs d c s with
        level := { (begunAs d c s).level with held := (begunAs d c s).level.held ++ [.command d c r] }
        processor := ⟨.holding d, d⟩ } := by
  rw [takeCommand_dispatched h, dispatch, if_pos ⟨by rw [begunAs_level, computing], held⟩]
  rfl

theorem takeCommand_answersRestart (h : checkCommand d c (begunAs d c s) = .ok .restart) :
    takeCommand d c s = answerRestart d c (begunAs d c s) := by
  rw [takeCommand_dispatched h, dispatch, if_neg (fun k => Bool.false_ne_true k.2), if_pos rfl]

/-- A command that reaches its owner is answered. -/
theorem takeCommand_answered (h : checkCommand d c (begunAs d c s) = .ok r) (notRestart : r ≠ .restart)
    (now : r.isHeld (begunAs d c s) = false ∨ s.level.phase = .waiting) :
    takeCommand d c s =
      let a := perform r (begunAs d c s)
      answeredAs d c a.result (replyData a.result a.data) a.state := by
  have served : (perform r (begunAs d c s)).state.processor.served = d := by
    rw [(perform_samePorts r _).processor]
    rfl
  rw [takeCommand_dispatched h, dispatch, if_neg, if_neg notRestart, answer_eq_answeredAs served]
  rintro ⟨computing, held⟩
  obtain k | k := now
  · exact Bool.false_ne_true (k.symm.trans held)
  · rw [begunAs_level, k] at computing
    cases computing

end

/-! ### O6: a request of a held class (R76, R156) -/

theorem heldRequestJoinsTheList : Clause.HeldRequestJoinsTheList := by
  intro i d tag r s row free fits permitted notStoring computing held
  have check : checkCommand d (r.command tag) (begunAs d (r.command tag) s) = .ok r := by
    simp [checkCommand, Request.command, parse_code_params fits, permitted, notStoring]
  have taken := takeCommand_held check computing ((begunAs_isHeld ..).trans held)
  have arrived : takeCommand d (r.command tag) (s.setBuffer d (.waiting (r.command tag))) =
      takeCommand d (r.command tag) s := by
    unfold takeCommand
    rw [beginCommand_arrival, beginCommand_eq]
  have busy : nextCommand (takeCommand d (r.command tag) s) = none :=
    nextCommand_of_busy (by rw [taken]; nofun)
  rw [exec_request row, requestArrives, commandArrives]
  simp only [free.buffer]
  rw [arbitrate_one (nextCommand_arrival free) (by rw [arrived]; exact busy), arrived, taken, begunAs_level]
  rfl

/-- Settles O6. The classes are the model's own table, read request by request. -/
theorem heldClassWaitsForComputeEnd : Obligations.HeldClassWaitsForComputeEnd :=
  ⟨heldRequestJoinsTheList, fun r _ => by cases r <;> rfl⟩

/-! ### O23: held requests and waiting commands in turn (R77, R78, R151) -/

theorem computeEndGoesInOrder : Clause.ComputeEndGoesInOrder := by
  intro s computing posted
  have ended : exec .computeEnd s = .next (computeEndIfComputing s) := rfl
  rw [ended, computeEndIfComputing]
  simp only [computing]
  rw [computeEnd_eq]
  rfl

/-- A held command is carried out as its row, taken at once, would be (R77, R156). -/
theorem takeHeld_command (d : Desk) (tag : Byte) (r : Request) (s : State) :
    takeHeld (.command d (r.command tag) r) { begun d tag r s with processor := ⟨.holding d, d⟩ } =
      let a := perform r (begun d tag r s)
      answered d tag r a.result (replyData a.result a.data) a.state := by
  have served : (perform r (begun d tag r s)).state.processor.served = d := by
    rw [(perform_samePorts r _).processor]
    rfl
  exact answer_eq_answeredAs served

theorem heldRequestsAreTakenOneByOne : Clause.HeldRequestsAreTakenOneByOne := by
  refine ⟨fun _ => rfl, fun _ _ _ => rfl, fun _ _ _ => rfl, fun i d tag r s row notRestart h => ⟨?_, ?_⟩⟩
  · rw [exec_taken row h notRestart, takeHeld_command]
  · exact ⟨_, _, _, exec_taken row h notRestart, fun done started => if_neg (not_or.mpr ⟨done, started⟩)⟩

theorem answer_buffer (d : Desk) (c : Command) (a : Answer) :
    ((answer d c a).desk d).port.buffer = .answering c := by
  cases d <;> rfl

theorem answer_other (d : Desk) (c : Command) (a : Answer) :
    (answer d c a).desk d.other = a.state.desk d.other := by
  cases d <;> rfl

/-- Desk `d` has no command WAITING any more, and the other desk's port is untouched. -/
structure TurnOver (d : Desk) (s t : State) : Prop where
  own : (t.desk d).port.buffer.waitingCommand = none
  other : (t.desk d.other).port = (s.desk d.other).port

theorem takeCommand_turnOver (d : Desk) (c : Command) (s : State) : TurnOver d s (takeCommand d c s) := by
  have answers : ∀ a : Answer, SamePorts (begunAs d c s) a.state → TurnOver d s (answer d c a) := fun a k =>
    ⟨by rw [answer_buffer]; rfl, by rw [answer_other, k.ports, begunAs_other]⟩
  unfold takeCommand dispatch
  simp only
  split
  · exact answers _ (.rfl _)
  · split
    · cases d <;> exact ⟨rfl, rfl⟩
    · split
      · cases d <;> exact ⟨rfl, rfl⟩
      · exact answers _ (perform_samePorts _ _)

theorem nextCommand_eq_none {s : State} (h : ∀ d, (s.desk d).port.buffer.waitingCommand = none) :
    nextCommand s = none := by
  refine Option.eq_none_iff_forall_ne_some.mpr fun x hx => ?_
  have waiting := Buffer.waitingCommand_eq_some.mpr (nextCommand_eq_some.mp hx).2.1
  rw [h] at waiting
  cases waiting

/-- One command taken, and then what waits besides it: two turns are enough for the two buffers (R149, R151). -/
theorem arbitrate_next {s : State} {d : Desk} {c : Command} (h : nextCommand s = some (d, c)) :
    arbitrate s = arbitrate (takeCommand d c s) := by
  have first : arbitrate s = arbitrateWithin 1 (takeCommand d c s) := by simp only [arbitrate, arbitrateWithin, h]
  have served := (takeCommand_turnOver d c s).own
  rw [first]
  generalize takeCommand d c s = u at served
  cases next : nextCommand u with
  | none => simp only [arbitrate, arbitrateWithin, next]
  | some x =>
    obtain ⟨y, c'⟩ := x
    have waits := Buffer.waitingCommand_eq_some.mpr (nextCommand_eq_some.mp next).2.1
    have differ : d ≠ y := by
      rintro rfl
      rw [served] at waits
      cases waits
    obtain rfl := Desk.eq_other_of_ne differ
    obtain ⟨own, other⟩ := takeCommand_turnOver y c' u
    rw [arbitrate_one next]
    · simp only [arbitrateWithin, next]
    · refine nextCommand_eq_none fun z => ?_
      by_cases hz : z = y
      · rw [hz]
        exact own
      · rw [Desk.eq_other_of_ne hz, other]
        exact served

theorem waitingCommandsAreTakenInTurn : Clause.WaitingCommandsAreTakenInTurn := by
  intro u
  refine ⟨fun none => ?_, fun d c next => ⟨fun why check => ?_, fun r check => ⟨?_, ?_, ?_⟩⟩⟩
  · simp only [arbitrate, arbitrateWithin, none]
  · rw [arbitrate_next next, takeCommand_refused check]
  · intro held computing
    have taken := takeCommand_held check computing held
    rw [arbitrate_one next (by rw [taken]; exact nextCommand_of_busy nofun), taken]
  · rintro rfl
    have taken := takeCommand_answersRestart check
    rw [arbitrate_one next (by rw [taken]; exact nextCommand_answerRestart d c _), taken]
    cases d <;> rfl
  · intro notRestart now
    rw [arbitrate_next next, takeCommand_answered check notRestart now]
    rfl

/-- Settles O23: the order is that of compute end, a held command is its row taken at once, and each waiting
command is one turn of the arbiter. -/
theorem heldRequestsAreTakenInTurn : Obligations.HeldRequestsAreTakenInTurn :=
  ⟨computeEndGoesInOrder, heldRequestsAreTakenOneByOne, waitingCommandsAreTakenInTurn⟩

end Sys2Proof.Machine
end

section
/-! PROOFS. O25: the output set on its way to the four rack transmitters, and SET SKIPPED in its free order (R79,
R124, R126, assumption 2). -/

namespace Sys2Proof.Machine

/-- A post is taken, held or discarded as R124 gives it. -/
theorem postIsTakenHeldOrDiscarded : Clause.PostIsTakenHeldOrDiscarded := by
  intro x t
  refine ⟨fun h => ?_, fun enabled mask => ?_⟩
  · unfold Transmitter.post
    obtain h | h := h <;> simp [h]
  · have able : (!t.enabled || t.mask == 0) = false := by simpa [enabled] using mask
    refine ⟨fun idle => ?_, fun a sending => ?_⟩
    · obtain ⟨none, -⟩ | ⟨a, rest, racks, taken⟩ := t.takeSet_cases x
      · exact absurd none mask
      · exact ⟨a, rest, racks, by simp only [Transmitter.post, able, idle, taken, Bool.false_eq_true, if_false]⟩
    · have held : t.post x = ({ t with queued := some x }, t.queued.isSome) := by
        simp only [Transmitter.post, able, sending, Bool.false_eq_true, if_false]
      exact ⟨held, by rw [held]; rfl⟩

/-- A post discards a pending set exactly where one stands in a SENDING transmitter that can take a post. -/
theorem Transmitter.post_skips (x : LinkSet) (t : Transmitter) : (t.post x).2 = t.skips := by
  unfold Transmitter.skips
  obtain ⟨h, k⟩ | ⟨enabled, mask, idle, k⟩ | ⟨a, enabled, mask, sending, k⟩ := t.post_cases x <;> rw [k]
  · obtain h | h := h <;> simp [h]
  · simp [idle]
  · have racks : (t.mask != 0) = true := bne_iff_ne.mpr mask
    rw [enabled, racks, sending]
    rfl

/-- Each of the 24 orders is an order of the four links. -/
theorem linkOrder_perm (k : Fin 24) : (linkOrder k).Perm (List.finRange 4) := by
  revert k
  decide

/-- SET SKIPPED comes once for each of the links, in some order, and two or more draw a free value. -/
theorem raiseSkippedFreely_order (p : Fin 4 → Bool) (s : State) :
    ∃ order : List (Fin 4), order.Perm ((List.finRange 4).filter p) ∧
      raiseSkippedFreely ((List.finRange 4).filter p) s =
        raiseSkipped order { s with choices := s.choices + if 2 ≤ order.length then 1 else 0 } := by
  unfold raiseSkippedFreely
  split
  · exact ⟨[], by simp [*], rfl⟩
  · rename_i l h
    exact ⟨[l], by rw [h], rfl⟩
  · rename_i none one
    have same : (List.finRange 4).filter (fun l => decide (l ∈ (List.finRange 4).filter p)) =
        (List.finRange 4).filter p := List.filter_congr fun l _ => by simp
    have perm := ((linkOrder_perm (Config.postOrder s.choices)).filter
      fun l => decide (l ∈ (List.finRange 4).filter p)).trans (.of_eq same)
    refine ⟨_, perm, ?_⟩
    have two : 2 ≤ ((List.finRange 4).filter p).length := by
      match h : (List.finRange 4).filter p with
      | [] => exact absurd h none
      | [l] => exact absurd h (one l)
      | _ :: _ :: _ => simp
    rw [perm.length_eq, if_pos two]

/-- The state after the four posts, before SET SKIPPED is reported. -/
def State.posted (s : State) (choices : Nat) : State :=
  { s with
    links := Table.tab fun l => ((s.links.get l).post (linkSet s.level.work.circuits l)).1
    choices := choices }

theorem postSets_eq (s : State) :
    ∃ order : List (Fin 4), order.Perm ((List.finRange 4).filter fun l => (s.links.get l).skips) ∧
      postSets s = raiseSkipped order (s.posted (s.choices + if 2 ≤ order.length then 1 else 0)) := by
  have posts : (Table.zip (fun l (t : Transmitter) => t.post (linkSet s.level.work.circuits l))
      (Table.indices 4) s.links).map (·.1) =
      Table.tab fun l => ((s.links.get l).post (linkSet s.level.work.circuits l)).1 :=
    Table.ext fun l => by simp only [Table.get_map, Table.get_zip, Table.get_indices, Table.get_tab]
  unfold postSets
  simp only [posts, Table.get_zip, Table.get_indices, Transmitter.post_skips]
  exact raiseSkippedFreely_order _ _

theorem skippedSetsAreReported : Clause.SkippedSetsAreReported := by
  intro s
  obtain ⟨order, perm, posted⟩ := postSets_eq s
  exact ⟨_, order, fun l => Table.get_tab .., perm, posted⟩

/-- Settles O25: what a transmitter does with a post, and the four posts of one step. -/
theorem outputSetIsPostedToTheLinks : Obligations.OutputSetIsPostedToTheLinks :=
  ⟨linkSet_get, postIsTakenHeldOrDiscarded, skippedSetsAreReported⟩

end Sys2Proof.Machine
end

section
/-! PROOFS. O44: an event and the route table. A firing sets one more of the sixteen marks, so the depth to which
chains are followed makes no difference once it exceeds the number of clear marks; and no step but a scan start
clears a mark (R71, R143 to R145, R164, assumption 21). -/

namespace Sys2Proof.Machine

/-! ### The depth of a chain (R143, assumption 21) -/

/-- The routes whose holdoff mark is clear. -/
def State.clearRoutes (s : State) : Finset (Fin 16) :=
  Finset.univ.filter fun r => (s.triggers.routes.get r).holdoff = false

theorem mem_clearRoutes {s : State} {r : Fin 16} :
    r ∈ s.clearRoutes ↔ (s.triggers.routes.get r).holdoff = false := by
  simp [State.clearRoutes]

theorem clearRoutes_card_le (s : State) : s.clearRoutes.card ≤ 16 := by
  simpa using s.clearRoutes.card_le_univ

theorem MarksStand.clearRoutes_subset {s t : State} (h : MarksStand s t) : t.clearRoutes ⊆ s.clearRoutes := by
  intro r hr
  rw [mem_clearRoutes] at hr ⊢
  by_contra set
  rw [h.marks r (by simpa using set)] at hr
  cases hr

theorem MarksStand.clearRoutes_le {s t : State} (h : MarksStand s t) :
    t.clearRoutes.card ≤ s.clearRoutes.card := Finset.card_le_card h.clearRoutes_subset

/-- A route that fires has its mark set. -/
theorem clearRoutes_fire {s : State} {r : Fin 16} (clear : (s.triggers.routes.get r).holdoff = false) :
    (s.setRoute r { s.triggers.routes.get r with holdoff := true }).clearRoutes.card < s.clearRoutes.card := by
  refine Finset.card_lt_card ⟨(MarksStand.fire s r).clearRoutes_subset, fun all => ?_⟩
  have still := mem_clearRoutes.mp (all (mem_clearRoutes.mpr clear))
  rw [State.setRoute_triggers, Table.get_set_self] at still
  cases still

/-- Two ways of raising events that do the same, and clear no mark, in states of fewer than `n` clear marks. -/
structure Agree (n : Nat) (raise raise' : Event → State → State) : Prop where
  same : ∀ e s, s.clearRoutes.card < n → raise e s = raise' e s
  marks : ∀ e s, MarksStand s (raise e s)

section
variable {n : Nat} {raise raise' : Event → State → State}

theorem Agree.raiseAll (h : Agree n raise raise') (es : List Event) {s : State} (few : s.clearRoutes.card < n) :
    raiseAll raise es s = raiseAll raise' es s := by
  unfold Machine.raiseAll
  induction es generalizing s with
  | nil => rfl
  | cons e rest ih =>
    rw [List.foldl_cons, List.foldl_cons, ← h.same e s few]
    exact ih ((h.marks e s).clearRoutes_le.trans_lt few)

theorem Agree.takeTask (h : Agree n raise raise') (r : Fin 16) (t : Task) {s : State}
    (few : s.clearRoutes.card < n) : takeTask raise r t s = takeTask raise' r t s := by
  obtain ⟨es, u, write, taken⟩ := takeTask_cases r t s
  have marks : u.clearRoutes = s.clearRoutes := by simp only [State.clearRoutes, write.routes]
  rw [taken, taken, h.raiseAll es (by rwa [marks])]

/-- A route fires at most once, so each firing leaves one clear mark fewer to what it sets off. -/
theorem Agree.offerRoute (h : Agree n raise raise') (e : Event) (r : Fin 16) {s : State}
    (few : s.clearRoutes.card ≤ n) : offerRoute raise e s r = offerRoute raise' e s r := by
  unfold Machine.offerRoute
  simp only
  split
  · split
    · rfl
    · rename_i clear
      unfold issueTask
      split
      · rfl
      · exact h.takeTask r _ ((clearRoutes_fire (by simpa using clear)).trans_le few)
  · rfl

theorem offerRoute_marks (hr : ∀ e s, MarksStand s (raise e s)) (e : Event) (s : State) (r : Fin 16) :
    MarksStand s (offerRoute raise e s r) := by
  obtain h | h | ⟨-, h⟩ := offerRoute_cases raise e s r <;> rw [h]
  · exact .rfl s
  · exact .of_routes (.refl _) (.refl _)
  · exact (MarksStand.fire s r).trans (.issueTask hr r _ _)

theorem Agree.offer (h : Agree n raise raise') (e : Event) {s : State} (few : s.clearRoutes.card ≤ n) :
    offer raise e s = offer raise' e s := by
  unfold Machine.offer
  generalize List.finRange 16 = rs
  induction rs generalizing s with
  | nil => rfl
  | cons r rest ih =>
    rw [List.foldl_cons, List.foldl_cons, ← h.offerRoute e r few]
    exact ih ((offerRoute_marks h.marks e s r).clearRoutes_le.trans few)

end

/-- Any depth above the number of clear marks follows a chain of tasks to its end (R143). -/
theorem raiseWithin_depth (n : Nat) : ∀ m, n ≤ m → Agree n (raiseWithin n) (raiseWithin m) := by
  induction n with
  | zero => exact fun m _ => ⟨fun _ _ none => absurd none (Nat.not_lt_zero _), .raiseWithin 0⟩
  | succ n ih =>
    intro m le
    obtain ⟨m, rfl⟩ : ∃ k, m = k + 1 := ⟨m - 1, by omega⟩
    refine ⟨fun e s few => ?_, .raiseWithin _⟩
    unfold raiseWithin
    split
    · exact (ih m (by omega)).offer e (Nat.le_of_lt_succ few)
    · rfl

/-! ### Routes in their order (R143 to R145) -/

theorem Source.matchesEvent_iff {x : Source} {e : Event} :
    x.matchesEvent e = true ↔ x.kind = e.kind ∧ (e.kind = .swapDone ∨ x.subject = some e.subject) := by
  unfold Source.matchesEvent
  rw [Bool.and_eq_true, decide_eq_true_iff]
  refine and_congr_right fun kind => ?_
  rw [← kind]
  cases x <;> simp [Source.kind, Source.subject]

/-- One route's turn at an event (R143). -/
def routeTurn (e : Event) (u : State) (x : Fin 16) : State :=
  let route := u.triggers.routes.get x
  if route.Meets e then
    if route.holdoff = true then u.report ⟨.taskRefused, numbered x, 1⟩
    else
      let fired := u.setRoute x { route with holdoff := true }
      if u.level.phase = .computing ∧ route.task.isHeld = true then
        fired.setHeld (u.level.held ++ [.task x route.task])
      else takeTask raiseEvent x route.task fired
  else u

section
variable {e : Event} {u : State} {x : Fin 16}

theorem routeTurn_passed (h : ¬(u.triggers.routes.get x).Meets e) : routeTurn e u x = u := if_neg h

theorem routeTurn_refused (meets : (u.triggers.routes.get x).Meets e)
    (set : (u.triggers.routes.get x).holdoff = true) :
    routeTurn e u x = u.report ⟨.taskRefused, numbered x, 1⟩ := (if_pos meets).trans (if_pos set)

theorem routeTurn_fired (meets : (u.triggers.routes.get x).Meets e)
    (clear : (u.triggers.routes.get x).holdoff = false) :
    routeTurn e u x =
      let route := u.triggers.routes.get x
      let fired := u.setRoute x { route with holdoff := true }
      if u.level.phase = .computing ∧ route.task.isHeld = true then
        fired.setHeld (u.level.held ++ [.task x route.task])
      else takeTask raiseEvent x route.task fired :=
  (if_pos meets).trans (if_neg (by rw [clear]; decide))

theorem routeTurn_held (meets : (u.triggers.routes.get x).Meets e)
    (clear : (u.triggers.routes.get x).holdoff = false) (computing : u.level.phase = .computing)
    (held : (u.triggers.routes.get x).task.isHeld = true) :
    routeTurn e u x =
      (u.setRoute x { u.triggers.routes.get x with holdoff := true }).setHeld
        (u.level.held ++ [.task x (u.triggers.routes.get x).task]) :=
  (routeTurn_fired meets clear).trans (if_pos ⟨computing, held⟩)

theorem routeTurn_taken (meets : (u.triggers.routes.get x).Meets e)
    (clear : (u.triggers.routes.get x).holdoff = false)
    (now : u.level.phase = .waiting ∨ (u.triggers.routes.get x).task.isHeld = false) :
    routeTurn e u x =
      takeTask raiseEvent x (u.triggers.routes.get x).task
        (u.setRoute x { u.triggers.routes.get x with holdoff := true }) := by
  refine (routeTurn_fired meets clear).trans (if_neg ?_)
  rintro ⟨computing, held⟩
  obtain k | k := now
  · exact Phase.noConfusion (k.symm.trans computing)
  · exact Bool.false_ne_true (k.symm.trans held)

end

theorem issueTask_eq (raise : Event → State → State) (r : Fin 16) (t : Task) (s : State) :
    issueTask raise r t s =
      if s.level.phase = .computing ∧ t.isHeld = true then s.setHeld (s.level.held ++ [.task r t])
      else takeTask raise r t s := by
  unfold issueTask
  cases s.level.phase <;> cases t.isHeld <;> simp

theorem offerRoute_eq_routeTurn (e : Event) (u : State) (x : Fin 16) : offerRoute raiseEvent e u x = routeTurn e u x := by
  have meets : ((u.triggers.routes.get x).enabled && (u.triggers.routes.get x).source.matchesEvent e) = true ↔
      (u.triggers.routes.get x).Meets e := by rw [Bool.and_eq_true, Source.matchesEvent_iff]
  unfold offerRoute routeTurn
  simp only [meets, issueTask_eq]
  rfl

/-- A routable event is offered to every route in turn, and so is each event that a task of it raises. -/
theorem raiseEvent_routable {e : Event} (h : e.kind.routable = true) (s : State) :
    raiseEvent e s = (List.finRange 16).foldl (routeTurn e) (s.report e) := by
  have deep : Agree 16 (raiseWithin 16) raiseEvent := raiseWithin_depth 16 17 (by decide)
  have offered : raiseEvent e s = offer (raiseWithin 16) e (s.report e) := by
    simp only [raiseEvent, Config.routeDepth, raiseWithin, h, if_true]
  have turns : offerRoute raiseEvent e = routeTurn e := funext₂ (offerRoute_eq_routeTurn e)
  rw [offered, deep.offer e (clearRoutes_card_le _), offer, turns]

theorem raiseEvent_notRoutable {e : Event} (h : e.kind.routable = false) (s : State) :
    raiseEvent e s = s.report e := by
  simp only [raiseEvent, Config.routeDepth, raiseWithin, h, Bool.false_eq_true, if_false]

theorem routesAreOfferedInTurn : Clause.RoutesAreOfferedInTurn := fun _ s =>
  ⟨fun h => raiseEvent_notRoutable h s, fun h => raiseEvent_routable h s⟩

/-! ### A single route (R143) -/

theorem SameButEvents.routeTurn (e : Event) (u : State) (x : Fin 16) : SameButEvents u (routeTurn e u x) := by
  unfold Machine.routeTurn
  simp only
  split
  · split
    · exact .report _ u
    · have fired := SameButEvents.mark u x true
      split
      · exact fired.trans (.setHeld _ _)
      · exact fired.trans (.takeTask SameButEvents.raiseEvent x _ _)
  · exact .rfl u

/-- An event changes no route but for its mark. -/
theorem SameButEvents.meets {s t : State} (h : SameButEvents s t) (x : Fin 16) (e : Event) :
    (t.triggers.routes.get x).Meets e ↔ (s.triggers.routes.get x).Meets e := by
  obtain ⟨mark, hx⟩ := h.routes x
  rw [hx]

theorem foldl_routeTurn_none {e : Event} {xs : List (Fin 16)} {s : State}
    (none : ∀ x ∈ xs, ¬(s.triggers.routes.get x).Meets e) : xs.foldl (routeTurn e) s = s := by
  induction xs with
  | nil => rfl
  | cons x rest ih =>
    rw [List.foldl_cons, routeTurn_passed (none x (List.mem_cons_self ..))]
    exact ih fun y hy => none y (List.mem_cons_of_mem _ hy)

theorem foldl_routeTurn_one {e : Event} {xs : List (Fin 16)} (nodup : xs.Nodup) {r : Fin 16} (hr : r ∈ xs)
    {s : State} (one : ∀ x, (s.triggers.routes.get x).Meets e ↔ x = r) :
    xs.foldl (routeTurn e) s = routeTurn e s r := by
  induction xs with
  | nil => cases hr
  | cons x rest ih =>
    obtain ⟨fresh, nodup⟩ := List.nodup_cons.mp nodup
    rw [List.foldl_cons]
    by_cases hx : x = r
    · subst hx
      refine foldl_routeTurn_none fun y hy meets => fresh ?_
      rwa [← (one y).mp (((SameButEvents.routeTurn e s x).meets y e).mp meets)]
    · rw [routeTurn_passed fun meets => hx ((one x).mp meets)]
      exact ih nodup ((List.mem_cons.mp hr).resolve_left fun k => hx k.symm)

theorem aSingleRouteFiresOnce : Clause.ASingleRouteFiresOnce := by
  intro e s routable
  refine ⟨fun none => ?_, fun r one => ?_⟩
  · rw [raiseEvent_routable routable]
    exact foldl_routeTurn_none fun x _ => none x
  · have turn : raiseEvent e s = routeTurn e (s.report e) r := by
      rw [raiseEvent_routable routable]
      exact foldl_routeTurn_one (List.nodup_finRange 16) (List.mem_finRange r) one
    have meets := (one r).mpr rfl
    intro route fired
    rw [turn]
    exact ⟨fun set => routeTurn_refused meets set, fun clear computing held => routeTurn_held meets clear computing held,
      fun clear now => routeTurn_taken meets clear now⟩

end Sys2Proof.Machine
end

section
/-! PROOFS. O44 and O49: what a millisecond tick takes before it advances, and the marks through every step (R67,
R68, R71, R127, R133, R136, R143, R163, assumptions 6 and 7). -/

namespace Sys2Proof.Machine

/-! ### The scan in progress through the occurrences of a tick -/

/-- An event, and the task of a route that it fires, leave the scan in progress as it is. -/
theorem SameScan.keptByHolding (s : State) : KeptByHolding (SameScan s) where
  same k h := h.trans k.toSameScan
  hold {u} r _ h _ _ :=
    (h.trans (SameHeld.setRoute (s := u) (r := r) fun _ => .refl _).toSameScan).trans
      { SameScan.rfl _ with }

theorem SameScan.of_wrote {s t : State} (h : WroteThenRaised raiseEvent (SameHeld s) t) : SameScan s t :=
  (keptByHolding s).raised (.rfl s) h

/-- What a tick takes before a compute end at its limit (assumption 7). -/
def tickTimers (s : State) : State :=
  let s1 := (List.finRange 3).foldl (fun s c => owedAdvance c s) s
  let s2 := (List.finRange 4).foldl (fun s c => debounceEnd c s) s1
  let s4 := expireFade .B (expireFade .A (checkTimeout .B (checkTimeout .A s2)))
  (List.finRange 4).foldl (fun s l => refreshLink l s) s4

theorem takeOverdue_eq (s : State) :
    takeOverdue s = scanStartIfDue (storeEndAtLimit (computeEndAtLimit (tickTimers s))) := rfl

theorem refreshLink_sameHeld (l : Fin 4) (s : State) : SameHeld s (refreshLink l s) := .write

theorem tickTimers_sameScan (s : State) : SameScan s (tickTimers s) := by
  have keeps := SameScan.keptByHolding s
  have clocks : SameScan s ((List.finRange 3).foldl (fun u c => owedAdvance c u) s) :=
    foldl_keeps (fun u c h => keeps.raised h (owedAdvance_sameHeld c u)) _ (.rfl s)
  have contacts : ∀ {u}, SameScan s u → SameScan s ((List.finRange 4).foldl (fun u c => debounceEnd c u) u) :=
    foldl_keeps (fun u c h => keeps.raised h (debounceEnd_sameHeld c u)) _
  have desk : ∀ d {u}, SameScan s u → SameScan s (checkTimeout d u) := fun d u h =>
    keeps.raised h (checkTimeout_sameHeld d u)
  have fade : ∀ d {u}, SameScan s u → SameScan s (expireFade d u) := fun d u h =>
    keeps.same (expireFade_sameHeld d u) h
  have links : ∀ {u}, SameScan s u → SameScan s ((List.finRange 4).foldl (fun u l => refreshLink l u) u) :=
    foldl_keeps (fun u l h => keeps.same (refreshLink_sameHeld l u) h) _
  unfold tickTimers
  simp only
  exact links (fade .B (fade .A (desk .B (desk .A (contacts clocks)))))

theorem storeEndAtLimit_sameScan (s : State) : SameScan s (storeEndAtLimit s) := by
  have drawn : ∀ n, SameHeld s { s with choices := n } := fun _ => .write
  unfold storeEndAtLimit
  split
  · split
    · simp only
      split
      · exact (drawn _).toSameScan.trans (.of_wrote (storeFaulted_sameHeld _))
      · exact (drawn _).toSameScan.trans (.of_wrote (storeCompleted_sameHeld _))
    · exact .rfl s
  · exact .rfl s
  · exact .rfl s

theorem scanIsDue_iff {s : State} : scanIsDue s = true ↔ s.level.phase = .waiting ∧ s.level.timer = 0 := by
  simp [scanIsDue]

theorem scanStartIfDue_of_not_due {s : State} (h : s.level.phase = .computing ∨ s.level.timer ≠ 0) :
    scanStartIfDue s = s := by
  refine if_neg fun due => ?_
  obtain ⟨waiting, zero⟩ := scanIsDue_iff.mp due
  obtain h | h := h
  · exact Phase.noConfusion (h.symm.trans waiting)
  · exact h zero

/-! ### O44: the marks through every step (R71, R148) -/

theorem computeEndIfComputing_marks (s : State) : MarksStand s (computeEndIfComputing s) := by
  unfold computeEndIfComputing
  split
  · exact .computeEnd s
  · exact .rfl s

theorem advanceMillisecond_routes (s : State) :
    (advanceMillisecond s).triggers.routes = s.triggers.routes := rfl

/-- A tick that takes no scan start clears no mark: the scan timer still runs, or the computation goes on. -/
theorem showClockTick_marks {s : State}
    (h : s.level.timer ≠ 0 ∨ s.level.phase = .computing ∧ elapsed s.showClock s.level.work.start < 2) (r : Fin 16)
    (set : (s.triggers.routes.get r).holdoff = true) : ((showClockTick s).triggers.routes.get r).holdoff = true := by
  have timers := tickTimers_sameScan s
  rw [showClockTick, advanceMillisecond_routes, takeOverdue_eq]
  generalize tickTimers s = u at timers
  have ended : MarksStand u (computeEndAtLimit u) := by
    unfold computeEndAtLimit
    split
    · exact computeEndIfComputing_marks u
    · exact .rfl u
  have stored := storeEndAtLimit_sameScan (computeEndAtLimit u)
  rw [scanStartIfDue_of_not_due]
  · exact stored.marks r (ended.marks r (timers.marks r set))
  · obtain running | ⟨computing, young⟩ := h
    · exact .inr (by rwa [stored.timer, ended.timer, timers.timer])
    · have goesOn : computeEndAtLimit u = u := by
        refine if_neg (not_le.mpr ?_)
        rw [timers.showClock, timers.work]
        exact young
      exact .inl (by rw [stored.phase, goesOn, timers.phase, computing])

theorem receive_marks (d : Desk) (x : Character) (s : State) : MarksStand s (receive d x s) := by
  have taken : ∀ r, MarksStand s (s.setReceiver d r) := fun _ => .of_routes (by simp) (by simp)
  have levels : ∀ base bytes u, MarksStand u (levelsArrive d base bytes u) := fun base bytes u =>
    have arrived := SameScan.of_wrote (levelsArrive_sameHeld d base bytes u)
    ⟨arrived.marks, arrived.timer⟩
  unfold receive acceptFrame
  simp only
  split
  · exact (taken _).trans (levels _ _ _)
  · exact (taken _).trans (.commandArrives d _ _)
  · exact taken _

theorem receiveFrame_marks (d : Desk) (k : FrameKind) (bytes : List Byte) (s : State) :
    MarksStand s (receiveFrame d k bytes s) := by
  unfold receiveFrame receiveRun
  refine foldl_keeps (P := MarksStand s) (fun u b h => h.trans (receive_marks d _ u)) bytes ?_
  unfold takeHeader
  split
  · exact .rfl s
  · exact receive_marks d _ s

theorem restartPart_routes (d : Desk) (s : State) : (restartPart d s).triggers.routes = s.triggers.routes := rfl

/-- Every command but POWER_ON, a scan start and a tick keeps the marks that are set. -/
theorem exec_marks {i : Instr} {s t : State} (he : exec i s = .next t) (power : i ≠ .powerOn)
    (scan : i = .scanStart → s.level.phase = .computing ∨ s.level.timer ≠ 0)
    (tick : i = .showClockTick → s.level.timer ≠ 0 ∨
      s.level.phase = .computing ∧ elapsed s.showClock s.level.work.start < 2) (r : Fin 16)
    (set : (s.triggers.routes.get r).holdoff = true) : (t.triggers.routes.get r).holdoff = true := by
  have wrote : ∀ {u}, WroteThenRaised raiseEvent (SameHeld s) u → (u.triggers.routes.get r).holdoff = true :=
    fun h => (SameScan.of_wrote h).marks r set
  rcases hi : i.request with _ | ⟨d, tag, q⟩
  · cases i <;> simp only [Instr.request, reduceCtorEq] at hi <;>
      simp only [exec, execPowerOn, execShowClockTick, execLevelsFrame, execLevelsFrameRefused, execCommandFrame,
        execCommandLengthRefused, execMarkedCharacterInFrame, execFramingError, execDeskTimeout,
        execLossFadeExpiry, execReplySent, execScanStart, execComputeEnd, execRestartCarriedOut, execRackFrameEnd,
        execRefresh, execContactInputChange, execDebounceExpiry, execClockMatch, execStoreDone, execStoreFailed,
        execFrameHeaderInHunt, Host.Outcome.next.injEq] at he <;>
      subst he
    case powerOn => exact absurd rfl power
    case showClockTick => exact showClockTick_marks (tick rfl) r set
    case scanStart => rwa [scanStartIfDue_of_not_due (scan rfl)]
    case computeEnd => exact (computeEndIfComputing_marks s).marks r set
    case levelsFrame | levelsFrameRefused | commandFrame | commandLengthRefused =>
      exact (receiveFrame_marks _ _ _ s).marks r set
    case markedCharacterInFrame | framingError | frameHeaderInHunt => exact (receive_marks _ _ s).marks r set
    case deskTimeout => exact wrote (checkTimeout_sameHeld _ s)
    case lossFadeExpiry => exact (expireFade_sameHeld _ s).marks r set
    case replySent d =>
      unfold replyDone
      split
      · exact set
      · simp only
        split <;> simpa [restartPart_routes] using set
    case restartCarriedOut =>
      unfold restartMoment
      split <;> simpa [restartPart_routes] using set
    case rackFrameEnd | refresh => exact set
    case contactInputChange => exact wrote (changeContact_sameHeld _ _ s)
    case debounceExpiry => exact wrote (debounceEnd_sameHeld _ s)
    case clockMatch => exact wrote (owedAdvance_sameHeld _ s)
    case storeDone => exact wrote (storeCompleted_sameHeld s)
    case storeFailed => exact wrote (storeFaulted_sameHeld s)
  · rw [exec_request hi] at he
    cases he
    exact (MarksStand.commandArrives d _ s).marks r set

theorem holdoffMarksStand : Clause.HoldoffMarksStand := by
  intro i rest s t pending he power scan tick r set
  unfold step at he
  rw [pending] at he
  exact exec_marks he power scan tick r set

/-- Settles O44: the routes in their turns, a single one, and the marks through every occurrence. -/
theorem aRouteFiresOnceBetweenScans : Obligations.ARouteFiresOnceBetweenScans :=
  ⟨routesAreOfferedInTurn, aSingleRouteFiresOnce, holdoffMarksStand⟩

end Sys2Proof.Machine
end

section
/-! PROOFS. O49: a millisecond that leaves nothing due moves every count by one, and a scan start or a compute end
that is due is taken first (R67, R68, R127, R133, R136, R163). -/

namespace Sys2Proof.Machine

/-! ### A millisecond that leaves nothing due -/

/-- No clock owes an advance, and no debounce timer, desk timeout, loss fade or refresh has come to its end. -/
structure TimersRun (s : State) : Prop where
  clocks : ∀ c, (s.triggers.clocks.get c).owed = false
  contacts : ∀ c t, (s.triggers.contacts.get c).timer = some t → t < (s.triggers.contacts.get c).debounce
  desks : ∀ d t, (s.desk d).monitor.state = .active → (s.desk d).monitor.lastLevels = some t →
    elapsed s.showClock t < (s.desk d).monitor.settings.timeout
  fades : ∀ d x, (s.desk d).monitor.fadeRunning = true → (s.desk d).monitor.loss = some x →
    elapsed s.showClock x.moment < x.fadeTime
  links : ∀ l t, (s.links.get l).refresh = some t → t < 100

theorem owedAdvance_none {s : State} {c : Fin 3} (h : (s.triggers.clocks.get c).owed = false) :
    owedAdvance c s = s := if_neg (by rw [h]; decide)

theorem debounceEnd_early {s : State} {c : Fin 4}
    (h : ∀ t, (s.triggers.contacts.get c).timer = some t → t < (s.triggers.contacts.get c).debounce) :
    debounceEnd c s = s := by
  refine if_neg fun expired => ?_
  obtain ⟨t, ht, late⟩ := Contact.expired_iff.mp expired
  exact absurd (h t ht) (not_lt.mpr late)

theorem checkTimeout_early {s : State} {d : Desk}
    (h : ∀ t, (s.desk d).monitor.state = .active → (s.desk d).monitor.lastLevels = some t →
      elapsed s.showClock t < (s.desk d).monitor.settings.timeout) : checkTimeout d s = s := by
  refine if_neg fun out => ?_
  obtain ⟨active, t, ht, late⟩ := Monitor.timedOut_iff.mp out
  exact absurd (h t active ht) (not_lt.mpr late)

theorem expireFade_early {s : State} {d : Desk}
    (h : ∀ x, (s.desk d).monitor.fadeRunning = true → (s.desk d).monitor.loss = some x →
      elapsed s.showClock x.moment < x.fadeTime) : expireFade d s = s := by
  refine if_neg fun expired => ?_
  obtain ⟨running, x, hx, late⟩ := Monitor.fadeExpired_iff.mp expired
  exact absurd (h x running hx) (not_lt.mpr late)

theorem Transmitter.refreshed_early {t : Transmitter} (h : ∀ ms, t.refresh = some ms → ms < 100) :
    t.refreshed = t := by
  refine if_neg fun due => ?_
  unfold Transmitter.refreshDue at due
  split at due
  · rename_i ms _ hms
    rw [Bool.and_eq_true, decide_eq_true_iff] at due
    exact absurd (h ms hms) (not_lt.mpr due.2)
  · cases due

theorem refreshLink_early {s : State} {l : Fin 4} (h : ∀ ms, (s.links.get l).refresh = some ms → ms < 100) :
    refreshLink l s = s := by
  rw [refreshLink, Transmitter.refreshed_early h, State.setLink, Table.set_get_self]

/-- With no timer at its end a tick takes nothing before the limits of the scan and of a store. -/
theorem TimersRun.tickTimers {s : State} (h : TimersRun s) : tickTimers s = s := by
  have clocks := List.foldl_fixed' (f := fun s c => owedAdvance c s) (fun c => owedAdvance_none (h.clocks c))
  have contacts := List.foldl_fixed' (f := fun s c => debounceEnd c s) (fun c => debounceEnd_early (h.contacts c))
  have links := List.foldl_fixed' (f := fun s l => refreshLink l s) (fun l => refreshLink_early (h.links l))
  have desk := fun d => checkTimeout_early (h.desks d)
  have fade := fun d => expireFade_early (h.fades d)
  unfold Machine.tickTimers
  simp only [clocks, contacts, links, desk, fade]

theorem computeEndAtLimit_early {s : State}
    (h : s.level.phase = .computing → elapsed s.showClock s.level.work.start < 2) : computeEndAtLimit s = s := by
  unfold computeEndAtLimit computeEndIfComputing
  split
  · rename_i late
    split
    · rename_i computing
      exact absurd (h computing) (not_lt.mpr late)
    · rfl
  · rfl

theorem storeEndAtLimit_early {s : State}
    (h : ∀ i since, s.memory = .storing i since → elapsed s.showClock since < 3000) : storeEndAtLimit s = s := by
  unfold storeEndAtLimit
  split
  · rename_i image since storing
    exact if_neg (not_le.mpr (h image since storing))
  · rfl
  · rfl

theorem CueClock.tick_eq (x : CueClock) :
    x.tick = if x.state = .stopped then x
      else if x.count + 1 = x.compare then { x with owed := true } else { x with count := x.count + 1 } := by
  unfold CueClock.tick
  cases x.state <;> rfl

theorem tickAdvancesEveryCount : Clause.TickAdvancesEveryCount := by
  intro s clocks contacts desks fades links young store running
  have run : TimersRun s := ⟨clocks, contacts, desks, fades, links⟩
  have nothing : takeOverdue s = s := by
    have notDue : s.level.phase = .computing ∨ s.level.timer ≠ 0 := by
      cases phase : s.level.phase with
      | computing => exact .inl rfl
      | waiting => exact .inr (running phase).ne'
    rw [takeOverdue_eq, run.tickTimers, computeEndAtLimit_early young, storeEndAtLimit_early store,
      scanStartIfDue_of_not_due notDue]
  refine ⟨advanceMillisecond s, ?_, rfl, fun l => Table.get_map .., fun c => Table.get_map .., fun c => ?_⟩
  · exact congrArg (fun u => Host.Outcome.next (advanceMillisecond u)) nothing
  · exact (Table.get_map ..).trans (CueClock.tick_eq _)

/-! ### A store that begins at a compute end (R171) -/

/-- Only STORE writes the show memory. -/
theorem perform_memory {r : Request} (h : r ≠ .store) (s : State) : (perform r s).state.memory = s.memory := by
  cases r with
  | store => exact absurd rfl h
  | writeCue | deleteCue | clearList =>
    simp only [perform, ownerWriteCue, writeCheckedCue, ownerDeleteCue, ownerClearList, refuse]
    (repeat' split) <;> rfl
  | _ => exact (SameStore.perform rfl s).memory

/-- The show clock stands at `now`, and a store in progress has begun at that moment. -/
structure StoreIsFresh (now : Time) (s : State) : Prop where
  clock : s.showClock = now
  since : ∀ i since, s.memory = .storing i since → since = now

section
variable {now : Time} {s t : State}

theorem StoreIsFresh.of_same (h : StoreIsFresh now s) (clock : t.showClock = s.showClock)
    (memory : t.memory = s.memory) : StoreIsFresh now t :=
  ⟨clock.trans h.clock, fun i since k => h.since i since (memory.symm.trans k)⟩

theorem StoreIsFresh.of_event (h : StoreIsFresh now s) (k : SameButEvents s t) : StoreIsFresh now t :=
  h.of_same k.showClock k.memory

theorem StoreIsFresh.perform (h : StoreIsFresh now s) (r : Request) : StoreIsFresh now (perform r s).state := by
  by_cases store : r = .store
  · subst store
    exact ⟨h.clock, fun i since k => by cases k; exact h.clock⟩
  · exact h.of_same (SameScan.of_wrote (perform_sameHeld r s)).showClock (perform_memory store s)

theorem StoreIsFresh.keptByCommands (now : Time) : KeptByCommands (StoreIsFresh now) where
  port d p s h := h.of_same (by simp) (by simp)
  processor _ _ h := h.of_same rfl rfl
  held _ _ h := h.of_same rfl rfl
  owner r _ h := h.perform r

/-- A store that a held request or a waiting command begins at a compute end has just begun. -/
theorem StoreIsFresh.computeEnd (h : StoreIsFresh now s) : StoreIsFresh now (computeEnd s) := by
  have clock : ∀ {u v}, SameScan u v → v.showClock = u.showClock := fun k => k.showClock
  have keeps := fun u => SameScan.keptByHolding u
  exact computeEnd_keeps
    (fun u k => (k.of_same (t := { u with level := { u.level with phase := .waiting } }) rfl rfl).of_same
      (clock (postSets_sameHeld _).toSameScan) (SameStore.postSets _).memory)
    (fun x rest u k => (keptByCommands now).takeHeld
      (fun r t v kv => kv.of_event (.takeTask SameButEvents.raiseEvent r t v)) x (k.of_same rfl rfl))
    (fun u k => k.of_same (clock (darkTest_sameHeld u).toSameScan) (SameStore.darkTest u).memory)
    (fun u k => k.of_same (clock ((keeps u).swapDone (.rfl u))) (SameStore.swapDone u).memory)
    (fun u k => k.of_same (clock ((keeps u).scanWorkEvents (.rfl u))) (SameStore.scanWorkEvents u).memory)
    (fun u w k => k.of_same (clock ((keeps u).evaluateWatch w (.rfl u))) (SameStore.evaluateWatch u w).memory)
    (fun u k => k.of_same rfl rfl) (fun u k => (keptByCommands now).arbitrate k) h

theorem StoreIsFresh.storeEndAtLimit (h : StoreIsFresh now s) : storeEndAtLimit s = s :=
  storeEndAtLimit_early fun i since storing => by
    rw [h.clock, h.since i since storing, elapsed, BitVec.sub_self]
    decide

end

/-! ### What is due is taken first (R67, R68) -/

theorem isStoring_eq_false {m : ShowMemory} (h : m.isStoring = false) (i : Image) (since : Time) :
    m ≠ .storing i since := by
  rintro rfl
  cases h

theorem tickTakesWhatIsDue : Clause.TickTakesWhatIsDue := by
  intro s clocks contacts desks links store
  have run : TimersRun s :=
    { clocks := clocks
      contacts := fun c t h => by rw [contacts c] at h; cases h
      desks := fun d t h => by rw [(desks d).1] at h; cases h
      fades := fun d x h => by rw [(desks d).2] at h; cases h
      links := fun l t h => by rw [links l] at h; cases h }
  refine ⟨fun waiting timer => ?_, fun computing late timer => ?_⟩
  · have taken : takeOverdue s = s.scanStarted := by
      rw [takeOverdue_eq, run.tickTimers, computeEndAtLimit_early (by rw [waiting]; nofun),
        storeEndAtLimit_early fun i since h => absurd h (isStoring_eq_false store i since), scanStartIfDue,
        if_pos (scanIsDue_iff.mpr ⟨waiting, timer⟩), scanStart_eq]
    exact ⟨s.scanStarted, exec_scanStart waiting timer, ⟨rfl, rfl⟩,
      congrArg (fun u => Host.Outcome.next (advanceMillisecond u)) taken⟩
  · have ended : computeEndIfComputing s = computeEnd s := by simp only [computeEndIfComputing, computing]
    have fresh : StoreIsFresh s.showClock s :=
      ⟨rfl, fun i since h => absurd h (isStoring_eq_false store i since)⟩
    have atLimit : computeEndAtLimit s = computeEndIfComputing s := if_pos late
    have taken : takeOverdue s = computeEnd s := by
      rw [takeOverdue_eq, run.tickTimers, atLimit, ended, fresh.computeEnd.storeEndAtLimit,
        scanStartIfDue_of_not_due (.inr ?_)]
      rw [(MarksStand.computeEnd s).timer]
      exact timer.ne'
    exact ⟨computeEnd s, congrArg Host.Outcome.next ended,
      congrArg (fun u => Host.Outcome.next (advanceMillisecond u)) taken⟩

/-- Settles O49: a tick takes what is due, which may be nothing, and then advances every count. -/
theorem tickAdvancesTimeExactly : Obligations.TickAdvancesTimeExactly :=
  ⟨tickAdvancesEveryCount, tickTakesWhatIsDue⟩

end Sys2Proof.Machine
end

section
/-! PROOFS. O22 and O24: compute end brings the scan to its end, part by part: the posts, the held requests, the dark
test, SWAP DONE, the scan events, the watches and the record (R77 to R83, R126, R140). -/

namespace Sys2Proof.Machine

/-! ### What a held request leaves as it is -/

/-- What no part of compute end but the posts and the watches touches: the show memory, the transmitters, the
desks, and no command comes to wait. -/
structure SameOutside (s t : State) : Prop where
  memory : t.memory = s.memory
  links : t.links = s.links
  monitor : ∀ d, (t.desk d).monitor = (s.desk d).monitor
  receiver : ∀ d, (t.desk d).receiver = (s.desk d).receiver
  waiting : ∀ d, (s.desk d).port.buffer.waitingCommand = none → (t.desk d).port.buffer.waitingCommand = none

theorem SameOutside.rfl (s : State) : SameOutside s s :=
  ⟨.refl _, .refl _, fun _ => .refl _, fun _ => .refl _, fun _ => id⟩

theorem SameOutside.trans {s t u : State} (h : SameOutside s t) (k : SameOutside t u) : SameOutside s u :=
  ⟨k.memory.trans h.memory, k.links.trans h.links, fun d => (k.monitor d).trans (h.monitor d),
    fun d => (k.receiver d).trans (h.receiver d), fun d w => k.waiting d (h.waiting d w)⟩

/-- A write of other fields. -/
theorem SameOutside.write {s t : State} (memory : t.memory = s.memory := by rfl)
    (links : t.links = s.links := by rfl) (a : t.deskA = s.deskA := by rfl) (b : t.deskB = s.deskB := by rfl) :
    SameOutside s t := by
  have desk : ∀ d, t.desk d = s.desk d := fun d => by cases d <;> assumption
  exact ⟨memory, links, fun d => by rw [desk], fun d => by rw [desk], fun d w => by rwa [desk]⟩

/-- As `SameOutside`, and the watches are the same. -/
structure SameWatched (s t : State) : Prop extends SameOutside s t where
  watches : t.triggers.watches = s.triggers.watches

theorem SameWatched.rfl (s : State) : SameWatched s s := ⟨.rfl s, .refl _⟩

theorem SameWatched.trans {s t u : State} (h : SameWatched s t) (k : SameWatched t u) : SameWatched s u :=
  ⟨h.toSameOutside.trans k.toSameOutside, k.watches.trans h.watches⟩

theorem SameWatched.write {s t : State} (memory : t.memory = s.memory := by rfl)
    (links : t.links = s.links := by rfl) (a : t.deskA = s.deskA := by rfl) (b : t.deskB = s.deskB := by rfl)
    (watches : t.triggers.watches = s.triggers.watches := by rfl) : SameWatched s t :=
  ⟨.write memory links a b, watches⟩

theorem SameButEvents.sameWatched {s t : State} (h : SameButEvents s t) : SameWatched s t :=
  .write h.memory h.links h.deskA h.deskB h.watches

/-- The owner of a request of a held class (R76). -/
theorem SameWatched.perform {r : Request} {v : State} (held : r.isHeld v = true) (s : State) :
    SameWatched s (perform r s).state := by
  cases r with
  | go | goto | back | pause | resume | release | loadList | unload | setMaster | setRate
  | setPlaybackTimes => exact (SameButEvents.playbackOwner (.refl _) s).sameWatched
  | writeCue | deleteCue | clearList | setGrandMaster | blackout | setCircuit | copyBank | clearBank | loadLaw
  | park | unpark | unparkAll | selectBank | cancelSwap =>
    simp only [Machine.perform, ownerWriteCue, writeCheckedCue, ownerDeleteCue, ownerClearList, ownerSetCircuit,
      ownerCopyBank, ownerClearBank, ownerSelectBank, ownerCancelSwap, ownerLoadLaw, ownerPark, ownerUnpark,
      ownerUnparkAll, ownerSetGrandMaster, ownerBlackout, refuse]
    (repeat' split) <;> exact .write
  | _ => cases held

theorem SameWatched.answer (d : Desk) (c : Command) (a : Answer) : SameWatched a.state (answer d c a) := by
  have desk : ∀ x, ((Machine.answer d c a).desk x).monitor = (a.state.desk x).monitor ∧
      ((Machine.answer d c a).desk x).receiver = (a.state.desk x).receiver := fun x => by
    cases d <;> cases x <;> exact ⟨.refl _, .refl _⟩
  refine ⟨⟨?_, ?_, fun x => (desk x).1, fun x => (desk x).2, fun x waiting => ?_⟩, ?_⟩
  · cases d <;> exact .refl _
  · cases d <;> exact .refl _
  · by_cases hx : x = d
    · rw [hx, answer_buffer]
      exact .refl _
    · rw [Desk.eq_other_of_ne hx, answer_other]
      rwa [Desk.eq_other_of_ne hx] at waiting
  · cases d <;> exact .refl _

/-- Held commands of held classes, and tasks, taken one after another (R77). -/
theorem SameWatched.takeHeldAll {held : List Held} {v : State}
    (classes : ∀ d c r, Held.command d c r ∈ held → r.isHeld v = true) (s : State) :
    SameWatched s (takeHeldAll held s) := by
  induction held generalizing s with
  | nil => exact .rfl s
  | cons x rest ih =>
    have left : SameWatched s (s.setHeld rest) := .write
    have taken : SameWatched (s.setHeld rest) (takeHeld x (s.setHeld rest)) := by
      cases x with
      | command d c r =>
        have begun : SameWatched (s.setHeld rest) ((s.setHeld rest).setProcessor (.executing d)) := .write
        have owner := SameWatched.perform (classes d c r (List.mem_cons_self ..))
          ((s.setHeld rest).setProcessor (.executing d))
        exact (begun.trans owner).trans (.answer d c _)
      | task r t => exact (SameButEvents.takeTask SameButEvents.raiseEvent r t _).sameWatched
    exact (left.trans taken).trans (ih (fun d c r h => classes d c r (List.mem_cons_of_mem _ h)) _)

/-! ### The dark test and SWAP DONE (R80, R82) -/

/-- A staged swap after a dark test (R80). -/
def Staged.tested (dark : Bool) (x : Staged) : Staged :=
  { x with due := x.due || (dark && decide (x.method = .atDark)) }

theorem ScanRecord.isDark_iff {r : ScanRecord} : r.isDark = true ↔ ∀ k, (r.circuits.get k).intensity = 0 := by
  simp [ScanRecord.isDark, Table.all_iff]

theorem darkTest_eq (s : State) :
    darkTest s = { s with
      level := { s.level with
        dark := s.level.work.isDark
        staged := s.level.staged.map (Staged.tested s.level.work.isDark) } } := by
  unfold darkTest
  obtain ⟨_, _, _, _, ⟨_, _, _, _, _, _, _, staged, _, _, work, _, _, _, _⟩, _, _, _, _, _, _, _, _, _⟩ := s
  cases staged with
  | none => rfl
  | some x =>
    cases due : work.isDark && decide (x.method = .atDark) <;>
      simp [Staged.tested, due, State.setStaged]

/-- SWAP DONE is an event and then the clearing of the mark (R82). -/
theorem swapDone_cases (s : State) :
    ∃ u, SameButEvents s u ∧ swapDone s = { u with level := { u.level with newBank := none } } := by
  unfold swapDone
  split
  · exact ⟨_, .raiseEvent _ s, rfl⟩
  · rename_i none
    refine ⟨s, .rfl s, ?_⟩
    rcases s with ⟨_, _, _, _, ⟨⟩, _, _, _, _, _, _, _, _, _⟩
    simp only at none
    subst none
    rfl

theorem SameWatched.swapDone (s : State) : SameWatched s (swapDone s) := by
  obtain ⟨u, event, h⟩ := swapDone_cases s
  rw [h]
  exact event.sameWatched.trans .write

/-! ### The watches (R140) -/

/-- The output value that a watch looks at in the scan (R140). -/
def State.watchOutput (s : State) (w : Fin 8) : Nat :=
  (s.level.work.circuits.get (s.triggers.watches.get w).circuit).output

theorem Watch.met_iff {x : Watch} {output : Nat} : x.met output = true ↔
    (x.condition = .above ∧ x.threshold.toNat < output) ∨ (x.condition = .below ∧ output < x.threshold.toNat) := by
  unfold Watch.met
  cases x.condition <;> simp

/-- One evaluation of a watch: OFF stays, any other watch is MET or CLEAR by its condition (R140). -/
theorem Watch.evaluate_watch (x : Watch) (output : Nat) :
    (x.evaluate output).1 = if x.state = .off then x
      else { x with state := if x.met output = true then .met else .clear, lastOutput := some output } := by
  unfold Watch.evaluate
  cases x.state <;> cases x.met output <;> simp

/-- WATCH is raised by the passage from CLEAR to MET alone (R140). -/
theorem Watch.evaluate_raises (x : Watch) (output : Nat) :
    (x.evaluate output).2 = (decide (x.state = .clear) && x.met output) := by
  unfold Watch.evaluate
  cases x.state <;> cases x.met output <;> simp

theorem evaluateWatch_event (s : State) (w : Fin 8) :
    SameButEvents (s.setWatch w ((s.triggers.watches.get w).evaluate (s.watchOutput w)).1) (evaluateWatch s w) := by
  unfold evaluateWatch
  simp only
  split
  · exact .raiseEvent _ _
  · exact .rfl _

theorem SameButEvents.work {s t : State} (h : SameButEvents s t) : t.level.work = s.level.work := by
  obtain ⟨_, _, _, level⟩ := h.level
  rw [level]

/-- Each watch is evaluated once, on the scan as it stands. -/
theorem foldl_evaluateWatch {ws : List (Fin 8)} (nodup : ws.Nodup) (s : State) (w : Fin 8) :
    (ws.foldl evaluateWatch s).triggers.watches.get w =
      if w ∈ ws then ((s.triggers.watches.get w).evaluate (s.watchOutput w)).1
      else s.triggers.watches.get w := by
  induction ws generalizing s with
  | nil => simp
  | cons x rest ih =>
    obtain ⟨fresh, nodup⟩ := List.nodup_cons.mp nodup
    have event := evaluateWatch_event s x
    have others : ∀ y, (evaluateWatch s x).triggers.watches.get y =
        if x = y then ((s.triggers.watches.get x).evaluate (s.watchOutput x)).1
        else s.triggers.watches.get y := fun y => by
      rw [event.watches, State.setWatch_triggers]
      exact Table.get_set ..
    have work : (evaluateWatch s x).level.work = s.level.work := event.work
    rw [List.foldl_cons, ih nodup]
    by_cases hx : x = w
    · subst hx
      rw [if_neg fresh, if_pos (List.mem_cons_self ..), others, if_pos (.refl _)]
    · simp only [State.watchOutput, work, others, if_neg hx, List.mem_cons, Ne.symm hx, false_or]

theorem SameOutside.evaluateWatch (s : State) (w : Fin 8) : SameOutside s (evaluateWatch s w) := by
  have set : ∀ x, SameOutside s (s.setWatch w x) := fun _ => .write
  exact (set _).trans (evaluateWatch_event s w).sameWatched.toSameOutside

theorem SameOutside.evaluateWatches (s : State) : SameOutside s (evaluateWatches s) :=
  foldl_keeps (P := SameOutside s) (fun u w h => h.trans (.evaluateWatch u w)) _ (.rfl s)

/-! ### The scan events (R21, R82) -/

theorem SameWatched.scanWorkEvents (s : State) : SameWatched s (scanWorkEvents s) := by
  have cleared : ∀ t, SameWatched s { s with playbacks := t } := fun _ => .write
  exact (cleared _).trans (SameButEvents.raiseAll _ _).sameWatched

/-- A playback with no scan event left to raise. -/
def Playback.NoEvents (pb : Playback) : Prop := pb.scanEvents = []

theorem Playback.settle_scanEvents (pb : Playback) : pb.settle.scanEvents = pb.scanEvents := by
  unfold Playback.settle
  (repeat' split) <;> rfl

theorem Playback.NoEvents.resumed {pb : Playback} (h : pb.NoEvents) : pb.resumed.NoEvents := by
  unfold Playback.resumed
  split
  · exact pb.settle_scanEvents.trans h
  · exact h

theorem Playback.NoEvents.went {pb : Playback} (h : pb.NoEvents) (p : Fin 6) (records : Table FadeRecord 768)
    (current follow : Option Nat) : (pb.went p records current follow).playback.NoEvents :=
  (Playback.settle_scanEvents _).trans h

theorem Playback.NoEvents.takeBack {pb : Playback} (h : pb.NoEvents) (lists : Table CueList 8) (p : Fin 6)
    (n : Nat) : (pb.takeBack lists p n).playback.NoEvents := by
  unfold Playback.takeBack
  split
  · exact h.went ..
  · exact h.went ..

theorem Playback.NoEvents.takeGo {pb : Playback} (h : pb.NoEvents) (lists : Table CueList 8) (p : Fin 6) :
    (pb.takeGo lists p).playback.NoEvents := by
  unfold Playback.takeGo
  simp only
  split
  · exact h.went p _ _ _
  · exact (Playback.settle_scanEvents _).trans h

/-- No request or task on a playback leaves a scan event in it (R21). -/
theorem Playback.NoEvents.keptByRequests : KeptByRequests Playback.NoEvents where
  go _ _ _ _ h := h.resumed.takeGo ..
  goto _ _ _ _ _ _ h := h.resumed.went ..
  back _ _ _ _ _ h := h.resumed.takeBack ..
  release _ _ h := (Playback.settle_scanEvents _).trans h.resumed
  pause _ _ h := h
  resume _ _ h := (Playback.settle_scanEvents _).trans h
  load _ _ _ h := h
  unload _ _ h := h
  master _ _ h := h
  rate _ _ h := h
  times _ _ _ _ _ h := h
  raised _ _ := rfl

theorem scanWorkEvents_noEvents (s : State) : EachPlayback Playback.NoEvents (scanWorkEvents s) := by
  refine raiseAll_keeps (fun e _ h => h.raiseEvent Playback.NoEvents.keptByRequests e) _ fun p => ?_
  simp only [Table.get_map]
  rfl

theorem evaluateWatches_noEvents {s : State} (h : EachPlayback Playback.NoEvents s) :
    EachPlayback Playback.NoEvents (evaluateWatches s) := by
  refine foldl_keeps (fun u w h => ?_) _ h
  have set : ∀ x, EachPlayback Playback.NoEvents (u.setWatch w x) := fun _ => h
  unfold evaluateWatch
  simp only
  split
  · exact (set _).raiseEvent Playback.NoEvents.keptByRequests _
  · exact set _

/-! ### O22: the end of the scan (R77 to R83) -/

/-- The dark indication and the new-bank mark are the same. -/
structure SameEnd (s t : State) : Prop where
  dark : t.level.dark = s.level.dark
  newBank : t.level.newBank = s.level.newBank

theorem SameEnd.trans {s t u : State} (h : SameEnd s t) (k : SameEnd t u) : SameEnd s u :=
  ⟨k.dark.trans h.dark, k.newBank.trans h.newBank⟩

theorem SameButEvents.sameEnd {s t : State} (h : SameButEvents s t) : SameEnd s t := by
  obtain ⟨_, _, _, level⟩ := h.level
  exact ⟨by rw [level], by rw [level]⟩

theorem SameEnd.scanWorkEvents (s : State) : SameEnd s (scanWorkEvents s) := by
  have cleared : ∀ t, SameEnd s { s with playbacks := t } := fun _ => ⟨rfl, rfl⟩
  exact (cleared _).trans (SameButEvents.raiseAll _ _).sameEnd

theorem SameEnd.evaluateWatches (s : State) : SameEnd s (evaluateWatches s) := by
  refine foldl_keeps (P := SameEnd s) (fun u w h => ?_) _ ⟨rfl, rfl⟩
  have set : ∀ x, SameEnd u (u.setWatch w x) := fun _ => ⟨rfl, rfl⟩
  exact h.trans ((set _).trans (evaluateWatch_event u w).sameEnd)

/-! #### From the dark test to the record -/

theorem SameScan.swapDone (s : State) : SameScan s (swapDone s) := (keptByHolding s).swapDone (.rfl s)

theorem SameScan.scanWorkEvents (s : State) : SameScan s (scanWorkEvents s) :=
  (keptByHolding s).scanWorkEvents (.rfl s)

theorem SameScan.evaluateWatches (s : State) : SameScan s (evaluateWatches s) :=
  foldl_keeps (fun _ w h => (keptByHolding s).evaluateWatch w h) _ (.rfl s)

theorem darkTest_sameWatched (s : State) : SameWatched s (darkTest s) := by
  rw [darkTest_eq]
  exact .write

/-- Where the watches begin: after the dark test, SWAP DONE and the scan events. -/
theorem watchesBegin_sameScan (u : State) : SameScan u (scanWorkEvents (swapDone (darkTest u))) :=
  ((darkTest_sameHeld u).toSameScan.trans (.swapDone _)).trans (.scanWorkEvents _)

theorem watchesBegin_sameWatched (u : State) : SameWatched u (scanWorkEvents (swapDone (darkTest u))) :=
  ((darkTest_sameWatched u).trans (.swapDone _)).trans (.scanWorkEvents _)

theorem SameOutside.writeRecord (s : State) : SameOutside s (writeRecord s) := .write

theorem SameEnd.writeRecord (s : State) : SameEnd s (writeRecord s) := ⟨rfl, rfl⟩

theorem writeRecord_playbacks (s : State) : (writeRecord s).playbacks = s.playbacks := rfl

theorem writeRecord_triggers (s : State) : (writeRecord s).triggers = s.triggers := rfl

theorem writeRecord_last (s : State) : (writeRecord s).level.last = { s.level.work with dark := s.level.dark } := rfl

/-- Before the record is written, the scan in progress is as it was. -/
theorem watchesEnd_sameScan (u : State) : SameScan u (evaluateWatches (scanWorkEvents (swapDone (darkTest u)))) :=
  (watchesBegin_sameScan u).trans (.evaluateWatches _)

theorem watchesEnd_sameOutside (u : State) :
    SameOutside u (evaluateWatches (scanWorkEvents (swapDone (darkTest u)))) :=
  (watchesBegin_sameWatched u).toSameOutside.trans (.evaluateWatches _)

theorem swapDone_end (s : State) : (swapDone s).level.dark = s.level.dark ∧ (swapDone s).level.newBank = none := by
  obtain ⟨u, event, h⟩ := swapDone_cases s
  rw [h]
  exact ⟨event.sameEnd.dark, rfl⟩

/-- The dark indication and the new-bank mark stand from SWAP DONE on. -/
theorem watchesEnd_sameEnd (u : State) :
    SameEnd (swapDone (darkTest u)) (evaluateWatches (scanWorkEvents (swapDone (darkTest u)))) :=
  (SameEnd.scanWorkEvents _).trans (.evaluateWatches _)

theorem watchesEnd_dark (u : State) :
    (evaluateWatches (scanWorkEvents (swapDone (darkTest u)))).level.dark = u.level.work.isDark := by
  rw [(watchesEnd_sameEnd u).dark, (swapDone_end _).1, darkTest_eq]

theorem watchesEnd_newBank (u : State) :
    (evaluateWatches (scanWorkEvents (swapDone (darkTest u)))).level.newBank = none := by
  rw [(watchesEnd_sameEnd u).newBank, (swapDone_end _).2]

theorem watchesEnd_watch (u : State) (w : Fin 8) :
    (evaluateWatches (scanWorkEvents (swapDone (darkTest u)))).triggers.watches.get w =
      ((u.triggers.watches.get w).evaluate (u.watchOutput w)).1 := by
  rw [evaluateWatches, foldl_evaluateWatch (List.nodup_finRange 8), if_pos (List.mem_finRange w),
    State.watchOutput, (watchesBegin_sameScan u).work, (watchesBegin_sameWatched u).watches, State.watchOutput]

/-! #### The posts and the held requests -/

theorem SameScan.takeHeldAll (held : List Held) (s : State) : SameScan s (takeHeldAll held s) := by
  induction held generalizing s with
  | nil => exact .rfl s
  | cons x rest ih =>
    have left : SameScan s (s.setHeld rest) := { SameScan.rfl s with }
    have taken : SameScan (s.setHeld rest) (takeHeld x (s.setHeld rest)) := by
      have keeps := SameScan.keptByHolding (s.setHeld rest)
      cases x with
      | command d c r =>
        have begun : SameScan (s.setHeld rest) ((s.setHeld rest).setProcessor (.executing d)) :=
          { SameScan.rfl _ with }
        have answers : ∀ a : Answer, SameScan a.state (answer d c a) := fun a =>
          ((SameHeld.setPort _ d _).trans (.setPort _ d _)).toSameScan.trans { SameScan.rfl _ with }
        exact (keeps.owner r begun).trans (answers _)
      | task r t => exact keeps.task keeps.event r t (.rfl _)
    exact (left.trans taken).trans (ih _)

theorem State.posted_desk (s : State) (choices : Nat) (d : Desk) : (s.posted choices).desk d = s.desk d := by
  cases d <;> rfl

/-- SET SKIPPED is reported and not routed. -/
theorem postSets_posted (s : State) : ∃ choices, SameButEvents (s.posted choices) (postSets s) := by
  obtain ⟨order, -, posted⟩ := postSets_eq s
  rw [posted]
  exact ⟨_, foldl_keeps (fun u l h => h.trans (.report _ u)) order (.rfl _)⟩

/-- The state when the held requests of a compute end are taken. -/
def heldTaken (s : State) : State :=
  takeHeldAll s.level.held (postSets { s with level := { s.level with phase := .waiting } })

theorem scanEnded_eq (s : State) :
    scanEnded s = writeRecord (evaluateWatches (scanWorkEvents (swapDone (darkTest (heldTaken s))))) := rfl

theorem heldTaken_sameScan (s : State) :
    SameScan { s with level := { s.level with phase := .waiting } } (heldTaken s) :=
  (postSets_sameHeld _).toSameScan.trans (.takeHeldAll _ _)

theorem heldTaken_sameWatched {s : State} (classes : ∀ d c r, Held.command d c r ∈ s.level.held → r.isHeld s = true) :
    ∃ choices, SameWatched (s.posted choices) (heldTaken s) := by
  obtain ⟨choices, posted⟩ := postSets_posted { s with level := { s.level with phase := .waiting } }
  have waiting : SameWatched (s.posted choices)
    (State.posted { s with level := { s.level with phase := .waiting } } choices) := .write
  exact ⟨choices, (waiting.trans posted.sameWatched).trans (.takeHeldAll classes _)⟩

theorem scanEnded_sameScan (s : State) :
    SameScan { s with level := { s.level with phase := .waiting } } (scanEnded s) :=
  ((heldTaken_sameScan s).trans (watchesEnd_sameScan _)).trans (writeRecord_sameHeld _).toSameScan

theorem scanEnded_dark (s : State) : (scanEnded s).level.dark = s.level.work.isDark := by
  rw [scanEnded_eq, (SameEnd.writeRecord _).dark, watchesEnd_dark, (heldTaken_sameScan s).work]

theorem scanEnded_newBank (s : State) : (scanEnded s).level.newBank = none := by
  rw [scanEnded_eq, (SameEnd.writeRecord _).newBank, watchesEnd_newBank]

/-- The record is the scan's values with the dark indication that the dark test made (R83). -/
theorem scanEnded_last (s : State) :
    (scanEnded s).level.last = { s.level.work with dark := s.level.work.isDark } := by
  rw [scanEnded_eq, writeRecord_last, watchesEnd_dark, (watchesEnd_sameScan _).work, (heldTaken_sameScan s).work]

theorem scanEnded_noEvents (s : State) (p : Fin 6) : ((scanEnded s).playbacks.get p).scanEvents = [] := by
  rw [scanEnded_eq, writeRecord_playbacks]
  exact evaluateWatches_noEvents (scanWorkEvents_noEvents _) p

theorem scanEnded_sameOutside {s : State} (classes : ∀ d c r, Held.command d c r ∈ s.level.held → r.isHeld s = true) :
    ∃ choices, SameOutside (s.posted choices) (scanEnded s) := by
  obtain ⟨choices, taken⟩ := heldTaken_sameWatched classes
  rw [scanEnded_eq]
  exact ⟨choices, (taken.toSameOutside.trans (watchesEnd_sameOutside _)).trans (.writeRecord _)⟩

/-- With no command waiting, nothing follows the end of the scan (R151). -/
theorem computeEnd_next {s : State} (computing : s.level.phase = .computing)
    (classes : ∀ d c r, Held.command d c r ∈ s.level.held → r.isHeld s = true)
    (waiting : ∀ d, (s.desk d).port.buffer.waitingCommand = none) :
    exec .computeEnd s = .next (scanEnded s) := by
  obtain ⟨choices, outside⟩ := scanEnded_sameOutside classes
  have none : ∀ d, ((scanEnded s).desk d).port.buffer.waitingCommand = none := fun d =>
    outside.waiting d (by rw [State.posted_desk, waiting])
  rw [computeEndGoesInOrder s computing]
  exact congrArg _ ((waitingCommandsAreTakenInTurn (scanEnded s)).1 (nextCommand_eq_none none))

/-- Every watch is evaluated once on this scan's value (R140). -/
theorem scanEnded_watch {s : State} (classes : ∀ d c r, Held.command d c r ∈ s.level.held → r.isHeld s = true)
    (w : Fin 8) : (scanEnded s).triggers.watches.get w =
      ((s.triggers.watches.get w).evaluate (s.watchOutput w)).1 := by
  obtain ⟨choices, taken⟩ := heldTaken_sameWatched classes
  have watches : (heldTaken s).triggers.watches = s.triggers.watches := taken.watches
  rw [scanEnded_eq, writeRecord_triggers, watchesEnd_watch, State.watchOutput, watches,
    (heldTaken_sameScan s).work, State.watchOutput]

theorem computeEndLeavesTheScanComplete : Clause.ComputeEndLeavesTheScanComplete := by
  intro s computing classes waiting output
  obtain ⟨choices, outside⟩ := scanEnded_sameOutside classes
  have scan := scanEnded_sameScan s
  obtain ⟨phase, held⟩ := StillHeld.scanEnded s
  refine ⟨scanEnded s, computeEnd_next computing classes waiting, phase, held, scanEnded_newBank s, ?_, ?_,
    fun l => ?_, scanEnded_noEvents s, fun w => ?_, scan.bank, scan.timer, scan.latch, scan.work,
    scan.showClock, outside.memory, scan.pending, fun d => ?_⟩
  · rw [scanEnded_dark]
    exact ScanRecord.isDark_iff
  · rw [scanEnded_last, scanEnded_dark]
  · rw [outside.links]
    exact Table.get_tab ..
  · rw [scanEnded_watch classes, Watch.evaluate_watch]
    simp only [Watch.met_iff]
    rfl
  · rw [outside.monitor, outside.receiver, State.posted_desk]
    exact ⟨rfl, rfl⟩

end Sys2Proof.Machine
end

section
/-! PROOFS. O22 and O24: a compute end that meets no enabled route only reports its events, one after another (R80,
R82, R126, R140, R164). -/

namespace Sys2Proof.Machine

/-! ### Events that meet no route -/

/-- No route is enabled. -/
def Quiet (s : State) : Prop := ∀ r, (s.triggers.routes.get r).enabled = false

/-- The state with these events reported, in turn. -/
def State.reported (s : State) (es : List Event) : State :=
  { s with reports := es.foldl (fun r e => r.take e s.showClock) s.reports }

theorem State.reported_cons (s : State) (e : Event) (es : List Event) :
    s.reported (e :: es) = (s.report e).reported es := rfl

theorem State.reported_append (s : State) (es fs : List Event) :
    (s.reported es).reported fs = s.reported (es ++ fs) := by
  simp only [State.reported, List.foldl_append]

theorem raiseEvent_quiet {s : State} (quiet : Quiet s) (e : Event) : raiseEvent e s = s.report e := by
  cases routable : e.kind.routable with
  | false => exact raiseEvent_notRoutable routable s
  | true =>
    rw [raiseEvent_routable routable]
    refine foldl_routeTurn_none fun x _ meets => ?_
    have enabled : (s.triggers.routes.get x).enabled = true := meets.1
    rw [quiet x] at enabled
    cases enabled

theorem raiseAll_quiet {s : State} (quiet : Quiet s) (es : List Event) :
    raiseAll raiseEvent es s = s.reported es := by
  induction es generalizing s with
  | nil => rfl
  | cons e rest ih =>
    rw [State.reported_cons, ← raiseEvent_quiet quiet e]
    refine ih (s := raiseEvent e s) ?_
    rw [raiseEvent_quiet quiet]
    exact quiet

theorem raiseSkipped_eq (order : List (Fin 4)) (s : State) :
    raiseSkipped order s = s.reported (order.map fun l => ⟨.setSkipped, numbered l, 0⟩) := by
  induction order generalizing s with
  | nil => rfl
  | cons l rest ih => exact ih _

/-- SWAP DONE, when the new-bank mark is set (R82). -/
def State.swapEvents (s : State) : List Event :=
  match s.level.newBank with
  | some before => [⟨.swapDone, numbered s.level.activeBank, numbered before⟩]
  | none => []

theorem swapDone_quiet {s : State} (quiet : Quiet s) :
    swapDone s = { s.reported s.swapEvents with level := { s.level with newBank := none } } := by
  cases mark : s.level.newBank with
  | some before =>
    simp only [swapDone, State.swapEvents, mark, raiseEvent_quiet quiet]
    rfl
  | none =>
    simp only [swapDone, State.swapEvents, mark]
    rw [← mark]
    rfl

theorem scanWorkEvents_quiet {s : State} (quiet : Quiet s) :
    scanWorkEvents s = { s.reported (s.playbacks.rows.flatMap (·.scanEvents)) with
      playbacks := s.playbacks.map fun pb => { pb with scanEvents := [] } } := by
  have cleared : ∀ playbacks, Quiet { s with playbacks := playbacks } := fun _ => quiet
  exact raiseAll_quiet (cleared _) _

/-- WATCH of a watch that passes from CLEAR to MET (R140). -/
def State.watchEvent (s : State) (w : Fin 8) : Option Event :=
  if (s.triggers.watches.get w).state = .clear ∧ (s.triggers.watches.get w).met (s.watchOutput w) = true then
    some ⟨.watch, numbered w, s.watchOutput w⟩
  else none

theorem evaluateWatch_quiet {s : State} (quiet : Quiet s) (w : Fin 8) :
    evaluateWatch s w =
      (s.setWatch w ((s.triggers.watches.get w).evaluate (s.watchOutput w)).1).reported (s.watchEvent w).toList := by
  have raises : ((s.triggers.watches.get w).evaluate (s.watchOutput w)).2 = true ↔
      (s.triggers.watches.get w).state = .clear ∧ (s.triggers.watches.get w).met (s.watchOutput w) = true := by
    rw [Watch.evaluate_raises, Bool.and_eq_true, decide_eq_true_iff]
  have set : ∀ x, Quiet (s.setWatch w x) := fun _ => quiet
  unfold evaluateWatch
  simp only
  split
  · rename_i raised
    rw [State.watchEvent, if_pos (raises.mp raised), raiseEvent_quiet (set _)]
    rfl
  · rename_i silent
    rw [State.watchEvent, if_neg fun h => silent (raises.mpr h)]
    rfl

/-- Each watch is evaluated on its own: the events are those of the watches as they were. -/
theorem foldl_evaluateWatch_quiet {ws : List (Fin 8)} (nodup : ws.Nodup) {s : State} (quiet : Quiet s) :
    ∃ watches, ws.foldl evaluateWatch s =
      { s.reported (ws.filterMap s.watchEvent) with triggers := { s.triggers with watches := watches } } := by
  induction ws generalizing s with
  | nil => exact ⟨_, rfl⟩
  | cons w rest ih =>
    obtain ⟨fresh, nodup⟩ := List.nodup_cons.mp nodup
    have one := evaluateWatch_quiet quiet w
    have later : rest.filterMap (evaluateWatch s w).watchEvent = rest.filterMap s.watchEvent := by
      refine List.filterMap_congr fun x hx => ?_
      have other : w ≠ x := fun h => fresh (h ▸ hx)
      have same : (evaluateWatch s w).triggers.watches.get x = s.triggers.watches.get x := by
        rw [one]
        exact (Table.get_set ..).trans (if_neg other)
      have work : (evaluateWatch s w).level.work = s.level.work := by
        rw [one]
        rfl
      have output : (evaluateWatch s w).watchOutput x = s.watchOutput x := by
        rw [State.watchOutput, same, work, State.watchOutput]
      rw [State.watchEvent, same, output, State.watchEvent]
    obtain ⟨watches, turns⟩ := ih nodup (s := evaluateWatch s w) (by rw [one]; exact quiet)
    refine ⟨watches, ?_⟩
    rw [List.foldl_cons, turns, later, one]
    have events : (w :: rest).filterMap s.watchEvent = (s.watchEvent w).toList ++ rest.filterMap s.watchEvent := by
      cases h : s.watchEvent w <;> simp [h]
    rw [State.reported_append, events]
    rfl

/-- The events from SWAP DONE on, as they stand when the held requests have been taken (R82). -/
def State.endEvents (s : State) : List Event :=
  s.swapEvents ++ s.playbacks.rows.flatMap (·.scanEvents) ++ (List.finRange 8).filterMap s.watchEvent

theorem watchesEnd_quiet {s : State} (quiet : Quiet s) :
    (evaluateWatches (scanWorkEvents (swapDone s))).reports = (s.reported s.endEvents).reports ∧
      (evaluateWatches (scanWorkEvents (swapDone s))).level.staged = s.level.staged := by
  have swapped := swapDone_quiet quiet
  have cleared := scanWorkEvents_quiet (s := swapDone s) (by rw [swapped]; exact quiet)
  obtain ⟨watches, turns⟩ := foldl_evaluateWatch_quiet (List.nodup_finRange 8) (s := scanWorkEvents (swapDone s))
    (by rw [cleared, swapped]; exact quiet)
  have same : (scanWorkEvents (swapDone s)).watchEvent = s.watchEvent := by
    rw [cleared, swapped]
    rfl
  rw [evaluateWatches, turns, same, cleared, swapped, State.endEvents, ← State.reported_append,
    ← State.reported_append]
  exact ⟨rfl, rfl⟩

theorem writeRecord_unreported (s : State) :
    (writeRecord s).reports = s.reports ∧ (writeRecord s).level.staged = s.level.staged := ⟨rfl, rfl⟩

/-- A compute end with no held request and no enabled route. -/
theorem scanEnded_quiet {s : State} (empty : s.level.held = []) (quiet : Quiet s) :
    ∃ order : List (Fin 4), order.Perm ((List.finRange 4).filter fun l => (s.links.get l).skips) ∧
      (scanEnded s).reports =
        (s.reported (order.map (fun l => ⟨.setSkipped, numbered l, 0⟩) ++ s.endEvents)).reports ∧
      (scanEnded s).level.staged = s.level.staged.map (Staged.tested s.level.work.isDark) := by
  obtain ⟨order, perm, posted⟩ := postSets_eq { s with level := { s.level with phase := .waiting } }
  refine ⟨order, perm, ?_⟩
  have taken : heldTaken s = postSets { s with level := { s.level with phase := .waiting } } := by
    rw [heldTaken, empty]
    rfl
  rw [posted, raiseSkipped_eq] at taken
  have tested : Quiet (darkTest (heldTaken s)) := by
    rw [darkTest_eq, taken]
    exact quiet
  obtain ⟨reports, staged⟩ := watchesEnd_quiet tested
  have events : (darkTest (heldTaken s)).endEvents = s.endEvents := by
    rw [darkTest_eq, taken]
    rfl
  have ended := writeRecord_unreported (evaluateWatches (scanWorkEvents (swapDone (darkTest (heldTaken s)))))
  rw [scanEnded_eq, ended.1, ended.2, reports, staged, events, darkTest_eq, taken, ← State.reported_append]
  exact ⟨rfl, rfl⟩

theorem computeEnd_alone {s : State} (computing : s.level.phase = .computing) (empty : s.level.held = [])
    (waiting : ∀ d, (s.desk d).port.buffer.waitingCommand = none) :
    exec .computeEnd s = .next (scanEnded s) := by
  refine computeEnd_next computing (fun d c r held => ?_) waiting
  rw [empty] at held
  cases held

/-! ### O22 and O24 -/

theorem darkMakesAnAtDarkSwapDue : Clause.DarkMakesAnAtDarkSwapDue := by
  intro s tested
  refine ⟨⟨s.level.work.isDark, ScanRecord.isDark_iff, darkTest_eq s⟩, fun computing empty waiting quiet => ?_⟩
  obtain ⟨-, -, -, staged⟩ := scanEnded_quiet empty quiet
  refine ⟨scanEnded s, computeEnd_alone computing empty waiting, ?_⟩
  rw [staged, scanEnded_dark]
  rfl

/-- Settles O22: compute end part by part, and the dark test. -/
theorem computeEndCompletesTheScan : Obligations.ComputeEndCompletesTheScan :=
  ⟨computeEndLeavesTheScanComplete, darkMakesAnAtDarkSwapDue⟩

/-- Settles O24: each part of compute end reports its events after those of the part before it. -/
theorem scanEventsComeInOrder : Obligations.ScanEventsComeInOrder := by
  intro s computing empty waiting quiet swap output watches
  obtain ⟨order, perm, reports, -⟩ := scanEnded_quiet empty quiet
  refine ⟨order, perm, scanEnded s, computeEnd_alone computing empty waiting, ?_⟩
  rw [reports, State.endEvents, ← List.append_assoc, ← List.append_assoc]
  rfl

end Sys2Proof.Machine
end

section
/-! PROOFS. O36: SET CIRCUIT, COPY BANK and CLEAR BANK (R92 to R95). The three edits write a bank by the same
operation, so what that operation does to the switch states and what the reply counts are said once. -/

namespace Sys2Proof

/-- A count over the rows of a table is a count over their indices. -/
theorem Table.count_eq {α : Type} {n : Nat} (p : α → Bool) (t : Table α n) :
    t.count p = (List.finRange n).countP fun i => p (t.get i) := by
  have rows : t.rows = (List.finRange n).map t.get := by
    refine List.ext_getElem (by simp [t.size]) fun i _ _ => ?_
    simp [Table.get_eq]
  rw [Table.count, rows, List.countP_map]
  rfl

end Sys2Proof

namespace Sys2Proof.Machine

/-! ### A bank written whole -/

/-- The switch states after a bank is written (R93 to R95). -/
theorem writeBank_switches_get (b : Fin 4) (new : Bank) (s : State) (k : Fin 1536) :
    (writeBank b new s).patch.switches.get k =
      if b = s.level.activeBank ∧ ((s.patch.banks.get b).get k).law ≠ (new.get k).law then false
      else s.patch.switches.get k := by
  simp only [writeBank, Table.get_zip, Bool.and_eq_true, isHot_iff, decide_eq_true_iff]

/-- A bank written with one record replaced resets at most the switch state of that circuit (R93). -/
theorem writeBank_set (b : Fin 4) (k : Fin 1536) (r : CircuitRecord) (s : State) :
    writeBank b ((s.patch.banks.get b).set k r) s =
      { s with
        patch := { s.patch with
          banks := s.patch.banks.set b ((s.patch.banks.get b).set k r)
          switches :=
            if s.isHot b && decide (((s.patch.banks.get b).get k).law ≠ r.law) then s.patch.switches.set k false
            else s.patch.switches } } := by
  have switches : (writeBank b ((s.patch.banks.get b).set k r) s).patch.switches =
      if s.isHot b && decide (((s.patch.banks.get b).get k).law ≠ r.law) then s.patch.switches.set k false
      else s.patch.switches := by
    have resets : (s.isHot b && decide (((s.patch.banks.get b).get k).law ≠ r.law)) = true ↔
        b = s.level.activeBank ∧ ((s.patch.banks.get b).get k).law ≠ r.law := by
      rw [Bool.and_eq_true, isHot_iff, decide_eq_true_iff]
    simp only [resets]
    refine Table.ext fun j => ?_
    rw [writeBank_switches_get]
    by_cases same : k = j
    · subst same
      rw [Table.get_set_self, apply_ite (fun t => Table.get t k), Table.get_set_self]
    · rw [Table.get_set_ne _ same, apply_ite (fun t => Table.get t j), Table.get_set_ne _ same, ite_self,
        if_neg fun h => h.2 rfl]
  rw [← switches]
  rfl

theorem changedRecords_eq (old new : Bank) :
    changedRecords old new = (List.finRange 1536).countP fun k => decide (old.get k ≠ new.get k) := by
  simp only [changedRecords, Table.count_eq, Table.get_zip, id]

theorem changedLaws_eq (old new : Bank) :
    changedLaws old new = (List.finRange 1536).countP fun k => decide ((old.get k).law ≠ (new.get k).law) := by
  simp only [changedLaws, Table.count_eq, Table.get_zip, id]

/-! ### The record that SET CIRCUIT carries (R92, R178) -/

/-- A source channel field of 0 stands for absent, as `number` reads it. -/
theorem readSource_eq {source : Half} (h : source.toNat ≤ 768) :
    readSource source = some (number 768 source.toNat) := by
  rw [readSource]
  split
  · next zero => rw [number_eq_none.mpr (.inl zero)]
  · next present =>
    obtain ⟨c, hc⟩ := Option.isSome_iff_exists.mp (number_isSome.mpr ⟨Nat.pos_of_ne_zero present, h⟩)
    rw [hc, Option.map_some]

theorem readSource_eq_none {source : Half} (h : 768 < source.toNat) : readSource source = none := by
  rw [readSource, if_neg (by omega), number_eq_none.mpr (.inr h), Option.map_none]

theorem index_eq_none {n k : Nat} (h : n ≤ k) : index n k = none := dif_neg (Nat.not_lt.mpr h)

/-- The number of a source channel is the field it was read from. -/
theorem orZero_number {n k : Nat} (h : k ≤ n) : orZero ((number n k).map numbered) = k := by
  cases found : number n k with
  | none =>
    have zero : k = 0 := (number_eq_none.mp found).resolve_right (Nat.not_lt.mpr h)
    exact zero.symm
  | some i => exact (number_eq_some.mp found).symm

section
variable {bank : Byte} {circuit source : Half} {proportion law preheat topSet : Byte} {b : Fin 4} {s : State}

/-- A circuit, source or law out of range (R92). -/
theorem readCircuitRecord_outOfRange
    (h : circuit.toNat = 0 ∨ 1536 < circuit.toNat ∨ 768 < source.toNat ∨ 8 ≤ law.toNat) :
    readCircuitRecord circuit source proportion law preheat topSet = none := by
  have missing : number 1536 circuit.toNat = none ∨ readSource source = none ∨ index 8 law.toNat = none := by
    rcases h with zero | high | noSource | noLaw
    · exact .inl (number_eq_none.mpr (.inl zero))
    · exact .inl (number_eq_none.mpr (.inr high))
    · exact .inr (.inl (readSource_eq_none noSource))
    · exact .inr (.inr (index_eq_none noLaw))
  unfold readCircuitRecord
  split
  · next k src l hk hs hl => simp only [hk, hs, hl, reduceCtorEq, or_self] at missing
  · rfl

theorem readCircuitRecord_inRange {k : Fin 1536} {l : Fin 8} (hk : circuit.toNat = numbered k)
    (hl : law.toNat = l.val) (hs : source.toNat ≤ 768) :
    readCircuitRecord circuit source proportion law preheat topSet =
      some (k, ⟨number 768 source.toNat, min proportion.toNat 100, l, preheat, topSet⟩) := by
  simp only [readCircuitRecord, number_eq_some.mpr hk, readSource_eq hs, index_eq_some.mpr hl]

/-- The reply carries the record's fields as they were sent, but for the clamped proportion. -/
theorem recordFields_carried {p : Nat} {l : Fin 8} (hl : law.toNat = l.val) (hs : source.toNat ≤ 768) :
    recordFields ⟨number 768 source.toNat, p, l, preheat, topSet⟩ =
      halfBytes source ++ [BitVec.ofNat 8 p, law, preheat, topSet] := by
  have channel : sourceNumber ⟨number 768 source.toNat, p, l, preheat, topSet⟩ = source.toNat := orZero_number hs
  have lawByte : b1 l.val = [law] := by rw [b1, ← hl, BitVec.ofNat_toNat, BitVec.setWidth_eq]
  rw [recordFields, channel, ← halfBytes_eq, lawByte, b1, List.append_assoc, List.append_assoc]
  rfl

theorem ownerSetCircuit_outOfRange (hb : number 4 bank.toNat = some b)
    (h : circuit.toNat = 0 ∨ 1536 < circuit.toNat ∨ 768 < source.toNat ∨ 8 ≤ law.toNat) :
    ownerSetCircuit bank circuit source proportion law preheat topSet s = refuse s .outOfRange := by
  simp only [ownerSetCircuit, hb, readCircuitRecord_outOfRange h]

theorem ownerSetCircuit_done (hb : number 4 bank.toNat = some b) {k : Fin 1536} {r : CircuitRecord}
    (h : readCircuitRecord circuit source proportion law preheat topSet = some (k, r)) :
    ownerSetCircuit bank circuit source proportion law preheat topSet s =
      ⟨writeBank b ((s.patch.banks.get b).set k r) s, .done, recordFields r ++ bYes (s.isHot b) ++
        bYes (s.isHot b && decide (((s.patch.banks.get b).get k).law ≠ r.law))⟩ := by
  simp only [ownerSetCircuit, hb, h]

end

theorem setCircuitReplacesOneRecord : Clause.SetCircuitReplacesOneRecord := by
  intro d tag bank circuit source proportion law preheat topSet b s r i taken hb s0
  refine ⟨fun range => exec_refused rfl taken nofun (ownerSetCircuit_outOfRange hb range),
    fun k l hk hl hs => exec_done rfl taken nofun ?_⟩
  rw [perform, ownerSetCircuit_done hb (readCircuitRecord_inRange hk hl hs), writeBank_set,
    recordFields_carried hl hs, State.isHot, begun_patch, begun_level]

/-! ### COPY BANK and CLEAR BANK (R94, R95) -/

theorem ownerCopyBank_done {source destination : Byte} {a b : Fin 4} (ha : number 4 source.toNat = some a)
    (hb : number 4 destination.toNat = some b) (s : State) :
    ownerCopyBank source destination s =
      ⟨writeBank b (s.patch.banks.get a) s, .done, bankEditData b (s.patch.banks.get a) s⟩ := by
  simp only [ownerCopyBank, ha, hb]

theorem ownerClearBank_done {bank : Byte} {b : Fin 4} (hb : number 4 bank.toNat = some b) (s : State) :
    ownerClearBank bank s =
      ⟨writeBank b (Table.fill 1536 .default) s, .done, bankEditData b (Table.fill 1536 .default) s⟩ := by
  simp only [ownerClearBank, hb]

theorem bankEditsWriteWholeBanks : Clause.BankEditsWriteWholeBanks := by
  intro d tag b s written data
  have writes : ∀ r new, written new (writeBank b new (begun d tag r s)) := fun r new => by
    refine ⟨?_, ?_, ?_, fun k => ?_⟩
    · rw [writeBank, begun_patch]
    · rw [writeBank, begun_patch]
    · rw [writeBank, begun_patch]
    · rw [writeBank_switches_get, begun_patch, begun_level]
  have counts : ∀ r new, bankEditData b new (begun d tag r s) = data new := fun r new => by
    simp only [bankEditData, data, changedRecords_eq, changedLaws_eq, State.isHot, begun_patch, begun_level,
      decide_eq_true_iff]
  refine ⟨fun src dst a taken ha hb => ⟨_, writes _ _, rfl, exec_done rfl taken nofun ?_⟩,
    fun bank taken hb => ⟨_, writes _ _, rfl, exec_done rfl taken nofun ?_⟩⟩
  · rw [perform, ownerCopyBank_done ha hb, counts, begun_patch]
  · rw [perform, ownerClearBank_done hb, counts]

/-- Settles O36: SET CIRCUIT writes its bank with one record replaced, COPY BANK and CLEAR BANK with a whole
new bank. -/
theorem bankEditsWriteRecordsAndBanks : Obligations.BankEditsWriteRecordsAndBanks :=
  ⟨setCircuitReplacesOneRecord, bankEditsWriteWholeBanks⟩

end Sys2Proof.Machine
end

section
/-! PROOFS. O17 and O18: the three cases of the output step, and the values of Law 0 and of the CURVE laws (R104,
R106 to R109, R118). -/

namespace Sys2Proof.Machine

/-! ### The park level of a circuit (R115) -/

theorem parkLevel_eq_none {parks : List Park} {k : Fin 1536} :
    parkLevel parks k = none ↔ ∀ y ∈ parks, y.circuit ≠ k := by
  simp only [parkLevel, Option.map_eq_none_iff, List.find?_eq_none, beq_iff_eq, ne_eq]

/-- In an ascending list the first entry of a circuit is the only one, so its level is the park level. -/
theorem ParksAscending.parkLevel_eq {parks : List Park} (h : ParksAscending parks) {y : Park} (hy : y ∈ parks) :
    parkLevel parks y.circuit = some y.level := by
  induction parks with
  | nil => cases hy
  | cons z zs ih =>
    obtain ⟨above, rest⟩ := List.pairwise_cons.mp h
    obtain rfl | hy := List.mem_cons.mp hy
    · simp only [parkLevel, List.find?_cons, beq_self_eq_true, Option.map_some]
    · have other : (z.circuit == y.circuit) = false := beq_false_of_ne (above y hy).ne
      rw [parkLevel, List.find?_cons_of_neg (by simp only [other, Bool.false_eq_true, not_false_eq_true])]
      exact ih rest hy

/-! ### The output step, case by case (R104) -/

section
variable {laws : Table Law 8} {parks : List Park} {k : Fin 1536} {r : CircuitRecord} {on : Bool} {i : Nat}

theorem outputStep_of_parked {level : Byte} (h : parkLevel parks k = some level) :
    outputStep laws parks k r on i = ⟨i, level.toNat, on, true⟩ := by
  simp only [outputStep, h]

theorem outputStep_not_parked (h : parkLevel parks k = none) : (outputStep laws parks k r on i).parked = false := by
  cases law : laws.get r.law <;> simp only [outputStep, h, law]

theorem outputStep_of_linear (h : parkLevel parks k = none) (law : laws.get r.law = .linear) :
    outputStep laws parks k r on i = ⟨i, limited r (linearValue i), on, false⟩ := by
  simp only [outputStep, h, law]

theorem outputStep_of_curve {points : Table Byte 17} (h : parkLevel parks k = none)
    (law : laws.get r.law = .curve points) :
    outputStep laws parks k r on i = ⟨i, limited r (curveValue points i), on, false⟩ := by
  simp only [outputStep, h, law]

theorem outputStep_of_switch {up down : Nat} (h : parkLevel parks k = none)
    (law : laws.get r.law = .switch up down) :
    outputStep laws parks k r on i =
      ⟨i, if switchUpdate up down on i then 255 else 0, switchUpdate up down on i, false⟩ := by
  simp only [outputStep, h, law]

end

/-- A switch is ON from the on threshold up, and above the off threshold when it was ON (R109). -/
theorem switchUpdate_iff {up down : Nat} (order : down < up) (on : Bool) (i : Nat) :
    switchUpdate up down on i = true ↔ up ≤ i ∨ down < i ∧ on = true := by
  cases on with
  | false => simp only [switchUpdate, Bool.false_eq_true, if_false, decide_eq_true_iff, and_false, or_false]
  | true =>
    simp only [switchUpdate, if_true, decide_eq_true_iff, and_true]
    omega

/-- Settles O17: a parked circuit, a curve law and a switch law, in the order of R104. -/
theorem outputStepFollowsItsThreeCases : Obligations.OutputStepFollowsItsThreeCases := by
  intro laws parks k r on i x
  refine ⟨outputStep_intensity .., ?parked, fun free => ?notParked⟩
  case parked =>
    rintro ascending y hy rfl
    simp only [x, outputStep_of_parked (ParksAscending.parkLevel_eq ascending hy), and_self]
  case notParked =>
    have free : parkLevel parks k = none := parkLevel_eq_none.mpr free
    refine ⟨outputStep_not_parked free, fun linear => ?_, fun points curve => ?_, fun up down switch order => ?_⟩
    · simp only [x, outputStep_of_linear free linear, linearValue, limited, and_self]
    · simp only [x, outputStep_of_curve free curve, limited, and_self]
    · simp only [x, outputStep_of_switch free switch, switchUpdate_iff order, and_self]

/-! ### Law 0 (R106) -/

theorem lawZeroIsAStraightLine : Clause.LawZeroIsAStraightLine := by
  intro i j below top
  have rises : linearValue i ≤ linearValue j :=
    Nat.div_le_div_right (Nat.add_le_add_right (Nat.mul_le_mul_right 255 below) 2047)
  refine ⟨rfl, rfl, rfl, rises, ?_⟩
  simp only [linearValue]
  omega

/-! ### CURVE laws (R107) -/

/-- The change from a point at `f` of the 256 steps of a segment over a difference of `d`, rounded half up. -/
def segmentChange (d f : Nat) : Nat := (d * f + 128) / 256

theorem segmentChange_le {f : Nat} (h : f < 256) (d : Nat) : segmentChange d f ≤ d := by
  have : d * f ≤ d * 255 := Nat.mul_le_mul_left d (by omega)
  simp only [segmentChange]
  omega

@[simp] theorem segmentChange_zero_left (f : Nat) : segmentChange 0 f = 0 := by
  rw [segmentChange, Nat.zero_mul]

@[simp] theorem segmentChange_zero_right (d : Nat) : segmentChange d 0 = 0 := by
  rw [segmentChange, Nat.mul_zero]

/-- The value at `f` of the 256 steps from point `p` to point `q`. -/
def segmentValue (p q f : Nat) : Nat :=
  if p ≤ q then p + segmentChange (q - p) f else p - segmentChange (p - q) f

theorem segmentValue_rising {p q : Nat} (h : p ≤ q) (f : Nat) :
    segmentValue p q f = p + segmentChange (q - p) f := if_pos h

theorem segmentValue_falling {p q : Nat} (h : q < p) (f : Nat) :
    segmentValue p q f = p - segmentChange (p - q) f := if_neg h.not_ge

@[simp] theorem segmentValue_zero (p q : Nat) : segmentValue p q 0 = p := by
  simp only [segmentValue, segmentChange_zero_right, Nat.add_zero, Nat.sub_zero, ite_self]

theorem segmentValue_mem {f : Nat} (h : f < 256) (p q : Nat) :
    min p q ≤ segmentValue p q f ∧ segmentValue p q f ≤ max p q := by
  obtain rising | falling := le_or_gt p q
  · have change := segmentChange_le h (q - p)
    rw [segmentValue_rising rising]
    omega
  · have change := segmentChange_le h (p - q)
    rw [segmentValue_falling falling]
    omega

/-- Turned upside down, a rising segment falls by the same change, and a falling one rises by it. -/
theorem segmentValue_mirror {f m p q : Nat} (h : f < 256) (hp : p ≤ m) (hq : q ≤ m) :
    segmentValue (m - p) (m - q) f = m - segmentValue p q f := by
  obtain rising | rfl | falling := lt_trichotomy p q
  · have size : m - p - (m - q) = q - p := by omega
    rw [segmentValue_falling (by omega), segmentValue_rising rising.le, size, Nat.sub_sub]
  · rw [segmentValue_rising le_rfl, segmentValue_rising le_rfl, Nat.sub_self, Nat.sub_self,
      segmentChange_zero_left, Nat.add_zero, Nat.add_zero]
  · have size : m - q - (m - p) = p - q := by omega
    have change := segmentChange_le h (p - q)
    rw [segmentValue_rising (by omega), segmentValue_falling falling, size]
    omega

/-- A CURVE law at an intensity is the value of the segment between its two points (R107). -/
theorem curveValue_eq_segmentValue (points : Table Byte 17) (i : Nat) (h : i ≤ 4095) :
    curveValue points i = segmentValue (points.get ⟨i / 256, by omega⟩).toNat
      (points.get ⟨i / 256 + 1, by omega⟩).toNat (i % 256) := by
  have row : ∀ n (hn : n < 17), points.rows.getD n 0 = points.get ⟨n, hn⟩ := fun n hn => by
    rw [Table.get_eq, List.getD_eq_getElem]
  simp only [curveValue, row _ (show i / 256 < 17 by omega), row _ (show i / 256 + 1 < 17 by omega)]
  rfl

theorem curveLawInterpolatesItsPoints : Clause.CurveLawInterpolatesItsPoints := by
  intro points i h p q
  have value : curveValue points i = segmentValue p q (i % 256) := curveValue_eq_segmentValue points i h
  have step : i % 256 < 256 := Nat.mod_lt i (by decide)
  have byte : ∀ x : Byte, x.toNat ≤ 255 := fun x => Nat.lt_succ_iff.mp x.isLt
  obtain ⟨low, high⟩ := segmentValue_mem step p q
  rw [← value] at low high
  refine ⟨fun start => by rw [value, start, segmentValue_zero], low, high, fun rising => ?rising,
    fun falling => ?falling, ?mirror⟩
  case rising => rw [value, segmentValue_rising rising, segmentChange]
  case falling =>
    have change := segmentChange_le step (p - q)
    rw [value, segmentValue_falling falling, ← segmentChange]
    omega
  case mirror =>
    have upsideDown : ∀ x : Byte, (255 - x).toNat = 255 - x.toNat := fun x =>
      BitVec.toNat_sub_of_le (BitVec.le_def.mpr (byte x))
    rw [curveValue_eq_segmentValue _ i h, Table.get_map, Table.get_map, upsideDown, upsideDown,
      segmentValue_mirror step (byte _) (byte _), value]

/-- Settles O18: Law 0 by its formula, a CURVE law by the segment that an intensity falls into. -/
theorem curveLawsRoundHalfUp : Obligations.CurveLawsRoundHalfUp :=
  ⟨lawZeroIsAStraightLine, curveLawInterpolatesItsPoints⟩

end Sys2Proof.Machine
end

section
/-! PROOFS. O38: LOAD LAW checks its law, its kind and its body in order, and a law that passes replaces the old one
with the switch states of its circuits OFF (R110 to R112). -/

namespace Sys2Proof.Machine

/-! ### The body (R111) -/

theorem readLawBody_otherKind {kind : Byte} (curve : kind ≠ 1) (switch : kind ≠ 2) (body : List Byte) :
    readLawBody kind body = .error .outOfRange := by
  have notOne : kind.toNat ≠ 1 := fun e => curve (BitVec.eq_of_toNat_eq e)
  have notTwo : kind.toNat ≠ 2 := fun e => switch (BitVec.eq_of_toNat_eq e)
  unfold readLawBody
  split
  · contradiction
  · contradiction
  · rfl

theorem readLawBody_curve {body : List Byte} (h : body.length = 17) :
    readLawBody 1 body = .ok (.curve ⟨body, h⟩) := dif_pos h

theorem readLawBody_curve_badLength {body : List Byte} (h : body.length ≠ 17) :
    readLawBody 1 body = .error .badRequest := dif_neg h

theorem readLawBody_switch {a b x y : Byte} (order : (half x y).toNat < (half a b).toNat)
    (range : (half a b).toNat ≤ 4095) :
    readLawBody 2 [a, b, x, y] = .ok (.switch (half a b).toNat (half x y).toNat) :=
  if_pos ⟨range, order.le.trans range, order⟩

theorem readLawBody_switch_outOfRange {a b x y : Byte}
    (h : 4095 < (half a b).toNat ∨ 4095 < (half x y).toNat ∨ (half a b).toNat ≤ (half x y).toNat) :
    readLawBody 2 [a, b, x, y] = .error .outOfRange :=
  if_neg (by omega)

theorem readLawBody_switch_badLength {body : List Byte} (h : body.length ≠ 4) :
    readLawBody 2 body = .error .badRequest := by
  unfold readLawBody
  split
  · next curve => exact absurd curve (by decide)
  · split
    · exact absurd rfl h
    · rfl
  · next other => exact absurd rfl other

/-! ### The law replaced (R112) -/

section
variable {law kind : Byte} {body : List Byte} {l : Fin 8} {s : State}

theorem putLaw_switches_get (l : Fin 8) (new : Law) (s : State) (k : Fin 1536) :
    (putLaw l new s).patch.switches.get k = (s.patch.switches.get k &&
      !decide (((s.patch.banks.get s.level.activeBank).get k).law = l)) := by
  simp only [putLaw, Table.get_zip]
  split
  · next names => rw [decide_eq_true names, Bool.not_true, Bool.and_false]
  · next other => rw [decide_eq_false other, Bool.not_false, Bool.and_true]

theorem circuitsOnLaw_eq (s : State) (l : Fin 8) :
    circuitsOnLaw s l = (List.finRange 1536).countP fun k =>
      decide (((s.patch.banks.get s.level.activeBank).get k).law = l) :=
  Table.count_eq ..

theorem onCircuits_eq (s : State) (l : Fin 8) :
    onCircuits s l = (List.finRange 1536).countP fun k =>
      decide (((s.patch.banks.get s.level.activeBank).get k).law = l) && s.patch.switches.get k := by
  simp only [onCircuits, Table.count_eq, Table.get_zip, id]

theorem ownerLoadLaw_lawZero (hl : law.toNat = (0 : Fin 8).val) :
    ownerLoadLaw law kind body s = refuse s .notPermitted := by
  simp only [ownerLoadLaw, index_eq_some.mpr hl, if_true]

theorem ownerLoadLaw_refused {why : Result} (hl : law.toNat = l.val) (other : l ≠ 0)
    (h : readLawBody kind body = .error why) : ownerLoadLaw law kind body s = refuse s why := by
  simp only [ownerLoadLaw, index_eq_some.mpr hl, if_neg other, h]

theorem ownerLoadLaw_done {new : Law} (hl : law.toNat = l.val) (other : l ≠ 0)
    (h : readLawBody kind body = .ok new) :
    ownerLoadLaw law kind body s =
      ⟨putLaw l new s, .done, b1 new.code ++ lawContents new ++ b2 (circuitsOnLaw s l) ++
        b2 (onCircuits s l)⟩ := by
  simp only [ownerLoadLaw, index_eq_some.mpr hl, if_neg other, h]

/-- The reply of a law that was loaded begins with the kind and the body that it was loaded from. -/
theorem readLawBody_contents {new : Law} (h : readLawBody kind body = .ok new) :
    b1 new.code ++ lawContents new = kind :: body := by
  unfold readLawBody at h
  split at h
  · next curve =>
    have kind1 : kind = 1 := BitVec.eq_of_toNat_eq curve
    split at h <;> cases h
    rw [kind1]
    rfl
  · next switch =>
    have kind2 : kind = 2 := BitVec.eq_of_toNat_eq switch
    split at h
    · next a b c d =>
      simp only at h
      split at h <;> cases h
      rw [lawContents, ← halfBytes_eq, ← halfBytes_eq, halfBytes_half, halfBytes_half, kind2]
      rfl
    · cases h
  · cases h

end

/-- Settles O38, check by check as R111 orders them. -/
theorem loadLawReplacesTheLaw : Obligations.LoadLawReplacesTheLaw := by
  intro d tag law kind body l s r i taken hl s0 refused bank named loaded
  have refuses : ∀ {why}, ownerLoadLaw law kind body s0 = refuse s0 why → refused why :=
    exec_refused rfl taken nofun
  have loads : ∀ {new}, l ≠ 0 → readLawBody kind body = .ok new → loaded new := fun {new} other read => by
    refine ⟨putLaw l new s0, ?frame, fun k => ?switches, exec_done rfl taken nofun ?reply⟩
    case frame => simp only [putLaw, s0, begun_patch]
    case switches => rw [putLaw_switches_get, begun_patch, begun_level]
    case reply =>
      rw [perform, ownerLoadLaw_done hl other read, readLawBody_contents read, circuitsOnLaw_eq, onCircuits_eq,
        begun_patch, begun_level]
  refine ⟨?_, fun other => ⟨fun curve switch => ?_, ?_, ?_, ?_, ?_⟩⟩
  · rintro rfl
    exact refuses (ownerLoadLaw_lawZero hl)
  · exact refuses (ownerLoadLaw_refused hl other (readLawBody_otherKind curve switch body))
  · rintro rfl length
    exact refuses (ownerLoadLaw_refused hl other (readLawBody_curve_badLength (by omega)))
  · rintro rfl length
    exact refuses (ownerLoadLaw_refused hl other (readLawBody_switch_badLength (by omega)))
  · rintro length rfl
    exact loads other (readLawBody_curve length)
  · rintro a b x y rfl rfl on off
    exact ⟨fun order range => loads other (readLawBody_switch order range),
      fun out => refuses (ownerLoadLaw_refused hl other (readLawBody_switch_outOfRange out))⟩

end Sys2Proof.Machine
end

section
/-! PROOFS. O39: PARK, UNPARK and UNPARK ALL edit the park list, which stays in ascending circuit (R115 to R117). -/

namespace Sys2Proof.Machine

/-! ### The park list after a PARK (R116) -/

/-- A PARK gives its circuit the level it carries and leaves every other circuit as it was. -/
theorem ParksAscending.mem_putPark_iff {parks : List Park} (h : ParksAscending parks) {x z : Park} :
    z ∈ Machine.putPark x parks ↔ z = x ∨ z ∈ parks ∧ z.circuit ≠ x.circuit := by
  induction parks with
  | nil => simp only [Machine.putPark, List.mem_singleton, List.not_mem_nil, false_and, or_false]
  | cons y ys ih =>
    obtain ⟨above, rest⟩ := List.pairwise_cons.mp h
    have keepsAll : ∀ zs : List Park, (∀ z ∈ zs, z.circuit ≠ x.circuit) →
        (z ∈ x :: zs ↔ z = x ∨ z ∈ zs ∧ z.circuit ≠ x.circuit) := fun zs others => by
      rw [List.mem_cons]
      exact or_congr_right ⟨fun hz => ⟨hz, others z hz⟩, And.left⟩
    unfold Machine.putPark
    split
    · next below =>
      refine keepsAll _ fun z hz => ?_
      obtain rfl | hz := List.mem_cons.mp hz
      · exact below.ne'
      · exact (below.trans (above z hz)).ne'
    · next notBelow =>
      split
      · next same =>
        rw [keepsAll ys fun z hz => (same ▸ above z hz).ne', List.mem_cons, or_and_right]
        have notHead : ¬(z = y ∧ z.circuit ≠ x.circuit) := fun ⟨e, other⟩ => other (e ▸ same.symm)
        simp only [notHead, false_or]
      · next other =>
        rw [List.mem_cons, ih rest, List.mem_cons]
        constructor
        · rintro (rfl | rfl | ⟨hz, ne⟩)
          · exact .inr ⟨.inl rfl, Ne.symm other⟩
          · exact .inl rfl
          · exact .inr ⟨.inr hz, ne⟩
        · rintro (rfl | ⟨rfl | hz, ne⟩)
          · exact .inr (.inl rfl)
          · exact .inl rfl
          · exact .inr (.inr ⟨hz, ne⟩)

/-! ### What the owner answers (R116, R117) -/

section
variable {circuit : Half} {level : Byte} {k : Fin 1536} {s : State}

theorem ownerPark_outOfRange (h : circuit.toNat = 0 ∨ 1536 < circuit.toNat) :
    ownerPark circuit level s = refuse s .outOfRange := by
  simp only [ownerPark, number_eq_none.mpr h]

theorem ownerUnpark_outOfRange (h : circuit.toNat = 0 ∨ 1536 < circuit.toNat) :
    ownerUnpark circuit s = refuse s .outOfRange := by
  simp only [ownerUnpark, number_eq_none.mpr h]

theorem ownerPark_parked {old : Byte} (hk : circuit.toNat = numbered k)
    (h : parkLevel s.patch.parks k = some old) :
    ownerPark circuit level s =
      ⟨s.setParks (putPark ⟨k, level⟩ s.patch.parks), .done,
        [1, 1, old] ++ b1 (putPark ⟨k, level⟩ s.patch.parks).length⟩ := by
  simp only [ownerPark, number_eq_some.mpr hk, h, Option.isSome_some, true_or, if_true]
  rfl

theorem ownerPark_inserted (hk : circuit.toNat = numbered k) (h : parkLevel s.patch.parks k = none)
    (room : s.patch.parks.length < 48) :
    ownerPark circuit level s =
      ⟨s.setParks (putPark ⟨k, level⟩ s.patch.parks), .done,
        [0, 0, 0] ++ b1 (putPark ⟨k, level⟩ s.patch.parks).length⟩ := by
  have fits : s.patch.parks.length < Config.maxParks := room
  simp only [ownerPark, number_eq_some.mpr hk, h, fits, or_true, if_true]
  rfl

theorem ownerPark_full (hk : circuit.toNat = numbered k) (h : parkLevel s.patch.parks k = none)
    (full : 48 ≤ s.patch.parks.length) : ownerPark circuit level s = refuse s .full := by
  have noRoom : ¬s.patch.parks.length < Config.maxParks := Nat.not_lt.mpr full
  simp only [ownerPark, number_eq_some.mpr hk, h, Option.isSome_none, Bool.false_eq_true, noRoom, or_self,
    if_false]

theorem ownerUnpark_done {old : Byte} (hk : circuit.toNat = numbered k)
    (h : parkLevel s.patch.parks k = some old) :
    ownerUnpark circuit s =
      ⟨s.setParks (s.patch.parks.filter fun x => decide (x.circuit ≠ k)), .done,
        old :: b1 (s.patch.parks.filter fun x => decide (x.circuit ≠ k)).length⟩ := by
  have left : (s.patch.parks.filter fun x => x.circuit != k) =
      s.patch.parks.filter fun x => decide (x.circuit ≠ k) :=
    List.filter_congr fun x _ => by rw [bne, beq_eq_decide, decide_not]
  simp only [ownerUnpark, number_eq_some.mpr hk, h, left]
  rfl

theorem ownerUnpark_noSuch (hk : circuit.toNat = numbered k) (h : parkLevel s.patch.parks k = none) :
    ownerUnpark circuit s = refuse s .noSuch := by
  simp only [ownerUnpark, number_eq_some.mpr hk, h]

end

/-- A park list put into the state as the owner sees it. -/
theorem begun_setParks (d : Desk) (tag : Byte) (r : Request) (s : State) (parks : List Park) :
    (begun d tag r s).setParks parks =
      { begun d tag r s with patch := { s.patch with parks := parks } } := by
  rw [State.setParks, begun_patch]

/-- Settles O39: each edit by whether its circuit is in the list, and how many entries stand there. -/
theorem parksAreKeptInTheList : Obligations.ParksAreKeptInTheList := by
  intro d tag s ascending parked
  have ascending : ParksAscending s.patch.parks := ascending
  refine ⟨fun circuit out => ⟨fun level taken => exec_refused rfl taken nofun (ownerPark_outOfRange out),
    fun taken => exec_refused rfl taken nofun (ownerUnpark_outOfRange out)⟩,
    fun circuit k hk => ⟨fun level taken => ?park, fun taken => ?unpark⟩, fun taken => ?all⟩
  case park =>
    intro r s0 full done
    have answers : ∀ {data}, ownerPark circuit level s0 =
        ⟨s0.setParks (putPark ⟨k, level⟩ s0.patch.parks), .done,
          data ++ b1 (putPark ⟨k, level⟩ s0.patch.parks).length⟩ → done data := fun {data} owner => by
      rw [begun_setParks, begun_patch] at owner
      exact ⟨putPark ⟨k, level⟩ s.patch.parks, ascending.putPark _, fun _ => ascending.mem_putPark_iff,
        exec_done rfl taken nofun owner⟩
    refine ⟨?_, fun free room => ?_, fun free atLimit => ?_⟩
    · rintro x hx rfl
      exact answers (ownerPark_parked hk (by rw [begun_patch]; exact ascending.parkLevel_eq hx))
    · exact answers (ownerPark_inserted hk (by rw [begun_patch]; exact parkLevel_eq_none.mpr free)
        (by rwa [begun_patch]))
    · exact exec_refused rfl taken nofun (ownerPark_full hk (by rw [begun_patch]; exact parkLevel_eq_none.mpr free)
        (by rwa [begun_patch]))
  case unpark =>
    intro r s0 left
    refine ⟨?_, fun free => exec_refused rfl taken nofun (ownerUnpark_noSuch hk
      (by rw [begun_patch]; exact parkLevel_eq_none.mpr free))⟩
    rintro x hx rfl
    refine exec_done rfl taken nofun ?_
    rw [perform, ownerUnpark_done hk (by rw [begun_patch]; exact ascending.parkLevel_eq hx), begun_setParks,
      begun_patch]
  case all =>
    refine exec_done rfl taken nofun ?_
    rw [perform, ownerUnparkAll, begun_setParks, begun_patch]

end Sys2Proof.Machine
end

section
/-! PROOFS. The operations of a rack transmitter, case by case: a set taken, the end of a frame, a refresh and new
settings (R121, R123, R125, R127, R129, R178). -/

namespace Sys2Proof.Machine

/-! ### Cycles (R123, R178) -/

theorem mem_maskRacks {mask : BitVec 4} {a : Fin 4} : a ∈ maskRacks mask ↔ mask.getLsbD a.val = true := by
  simp only [maskRacks, List.mem_filter, List.mem_finRange, true_and]

section
variable {t : Transmitter} {x : LinkSet} {a b : Fin 4}

/-- A set under an empty mask: its cycle ends at the moment it begins (R123, R125). -/
theorem Transmitter.takeSet_of_empty (empty : t.mask = 0) :
    t.takeSet x =
      { t with state := .idle, current := none, cycle := [], last := some x, refresh := some 0 } := by
  obtain ⟨-, taken⟩ | ⟨a, rest, racks, -⟩ := t.takeSet_cases x
  · exact taken
  · rw [empty, maskRacks_zero] at racks
    cases racks

theorem Transmitter.takeSet_of_racks (racks : t.mask ≠ 0) :
    ∃ a rest, maskRacks t.mask = a :: rest ∧ t.takeSet x =
      { t with state := .sending a, current := some x, cycle := a :: rest, last := some x, refresh := none } :=
  (t.takeSet_cases x).resolve_left fun h => racks h.1

/-! ### The end of a frame (R123, R125, R129) -/

theorem Transmitter.frameEnd_of_idle (idle : t.state = .idle) : t.frameEnd = t := by
  simp only [Transmitter.frameEnd, idle]

theorem Transmitter.frameEnd_of_disabled (sending : t.state = .sending a) (disabled : t.enabled = false) :
    t.frameEnd = t.silenced := by
  simp only [Transmitter.frameEnd, sending, disabled, Bool.false_eq_true, if_false]

theorem Transmitter.frameEnd_of_next (sending : t.state = .sending a) (enabled : t.enabled = true)
    (next : t.cycle.find? (fun b => decide (a < b)) = some b) : t.frameEnd = { t with state := .sending b } := by
  simp only [Transmitter.frameEnd, sending, enabled, if_true, next]

theorem Transmitter.frameEnd_of_last (sending : t.state = .sending a) (enabled : t.enabled = true)
    (last : t.cycle.find? (fun b => decide (a < b)) = none) : t.frameEnd = t.cycleEnd := by
  simp only [Transmitter.frameEnd, sending, enabled, if_true, last]

theorem Transmitter.cycleEnd_of_none (none : t.queued = none) : t.cycleEnd = t.toIdle := by
  simp only [Transmitter.cycleEnd, none]

theorem Transmitter.cycleEnd_of_pending (pending : t.queued = some x) :
    t.cycleEnd = { t with queued := none }.takeSet x := by
  simp only [Transmitter.cycleEnd, pending]

/-- The next rack of a cycle in ascending address is the least above the one just sent (R123). -/
theorem nextRack_eq_some {cycle : List (Fin 4)} (ascending : cycle.Pairwise fun a b => a < b) :
    cycle.find? (fun b => decide (a < b)) = some b ↔ b ∈ cycle ∧ a < b ∧ ∀ x ∈ cycle, a < x → b ≤ x := by
  rw [find?_eq_some_iff_least (key := id) ascending]
  simp only [decide_eq_true_eq, id_eq]

theorem nextRack_eq_none {cycle : List (Fin 4)} :
    cycle.find? (fun b => decide (a < b)) = none ↔ ∀ x ∈ cycle, x ≤ a := by
  simp only [List.find?_eq_none, decide_eq_true_eq, not_lt]

/-! ### Refresh (R127) -/

theorem Transmitter.refreshDue_iff :
    t.refreshDue = true ↔
      t.state = .idle ∧ t.enabled = true ∧ ∃ ms, t.refresh = some ms ∧ Config.refreshMs ≤ ms := by
  unfold Transmitter.refreshDue
  cases t.state <;> cases t.refresh <;> simp

theorem Transmitter.refreshed_of_not_due (h : ¬t.refreshDue = true) : t.refreshed = t := if_neg h

theorem Transmitter.refreshed_of_empty (due : t.refreshDue = true) (last : t.last = some x) (empty : t.mask = 0) :
    t.refreshed = { t with refresh := some 0 } := by
  simp only [Transmitter.refreshed, due, last, empty, if_true]

theorem Transmitter.refreshed_of_racks (due : t.refreshDue = true) (last : t.last = some x) (racks : t.mask ≠ 0) :
    t.refreshed = t.takeSet x := by
  simp only [Transmitter.refreshed, due, last, racks, if_true, if_false]

/-! ### New settings (R129, R130) -/

theorem Transmitter.configure_cases (t : Transmitter) (enabled : Bool) (mask : BitVec 4) :
    ((t.state = .idle ∧ t.enabled = true ∧ enabled = false) ∧
      t.configure enabled mask = { t with enabled := enabled, mask := mask }.silenced) ∨
    (¬(t.state = .idle ∧ t.enabled = true ∧ enabled = false) ∧
      t.configure enabled mask = { t with enabled := enabled, mask := mask }) := by
  unfold Transmitter.configure
  simp only
  split
  · next on idle => exact .inl ⟨⟨idle, on, rfl⟩, rfl⟩
  · next keeps => exact .inr ⟨fun ⟨idle, on, off⟩ => keeps on off idle, rfl⟩

theorem Transmitter.configure_mask (t : Transmitter) (enabled : Bool) (mask : BitVec 4) :
    (t.configure enabled mask).mask = mask := by
  obtain ⟨-, k⟩ | ⟨-, k⟩ := t.configure_cases enabled mask <;> rw [k]
  rfl

theorem Transmitter.configure_state (t : Transmitter) (enabled : Bool) (mask : BitVec 4) :
    (t.configure enabled mask).state = t.state := by
  obtain ⟨⟨idle, -, -⟩, k⟩ | ⟨-, k⟩ := t.configure_cases enabled mask <;> rw [k]
  exact idle.symm

end

end Sys2Proof.Machine
end

section
/-! PROOFS. O59: every step keeps each rack transmitter as R121 describes it. The operations of a transmitter
keep it legal, and no other write of an occurrence touches a transmitter (R121 to R130, R132). -/

namespace Sys2Proof.Machine

/-! ### The operations of a transmitter -/

section
variable {t : Transmitter} {x : LinkSet} {a : Fin 4}

theorem Transmitter.idle_legal (idle : t.state = .idle) (sets : t.current = none ∧ t.cycle = [] ∧ t.queued = none)
    (refresh : t.refresh.isSome = true → t.enabled = true ∧ t.last.isSome = true)
    (disabled : t.enabled = false → t.last = none) : t.Legal where
  idle _ := sets
  sending a sending := by
    rw [idle] at sending
    cases sending
  ascending := by
    rw [sets.2.1]
    exact .nil
  refresh runs := ⟨idle, refresh runs⟩
  disabled _ := disabled

theorem Transmitter.sending_legal (sending : t.state = .sending a) (rack : a ∈ t.cycle)
    (ascending : t.cycle.Pairwise fun a b => a < b) (current : t.current.isSome = true)
    (last : t.last = t.current) (refresh : t.refresh = none) : t.Legal where
  idle idle := by
    rw [idle] at sending
    cases sending
  sending b sendingB := by
    obtain rfl : a = b := LinkState.sending.inj (sending.symm.trans sendingB)
    exact ⟨rack, current, last, refresh⟩
  ascending := ascending
  refresh runs := by
    rw [refresh] at runs
    cases runs
  disabled idle := by
    rw [idle] at sending
    cases sending

/-- An enabled transmitter at rest with its refresh timer running from 0 (R125). -/
theorem Transmitter.toIdle_legal (enabled : t.enabled = true) (none : t.queued = none)
    (last : t.last.isSome = true) : t.toIdle.Legal :=
  idle_legal rfl ⟨rfl, rfl, none⟩ (fun _ => ⟨enabled, last⟩) fun disabled => by
    have both : true = false := enabled.symm.trans disabled
    cases both

theorem Transmitter.silenced_legal (t : Transmitter) : t.silenced.Legal :=
  idle_legal rfl ⟨rfl, rfl, rfl⟩ nofun fun _ => rfl

/-- The cycle of a set taken begins at its first rack, with that set current and last (R121, R123). -/
theorem Transmitter.takeSet_legal (enabled : t.enabled = true) (none : t.queued = none) (x : LinkSet) :
    (t.takeSet x).Legal := by
  by_cases empty : t.mask = 0
  · rw [takeSet_of_empty empty]
    exact toIdle_legal (t := { t with last := some x }) enabled none rfl
  · obtain ⟨a, rest, racks, taken⟩ := takeSet_of_racks (x := x) empty
    rw [taken]
    exact sending_legal rfl List.mem_cons_self (racks ▸ maskRacks_pairwise t.mask) rfl rfl rfl

theorem Transmitter.Legal.post (h : t.Legal) (x : LinkSet) : (t.post x).1.Legal := by
  obtain ⟨-, k⟩ | ⟨enabled, -, idle, k⟩ | ⟨a, -, -, sending, k⟩ := t.post_cases x <;> rw [k]
  · exact h
  · obtain ⟨-, -, none⟩ := h.idle idle
    exact takeSet_legal enabled none x
  · obtain ⟨rack, current, last, refresh⟩ := h.sending a sending
    exact sending_legal sending rack h.ascending current last refresh

theorem Transmitter.Legal.cycleEnd (h : t.Legal) (sending : t.state = .sending a) (enabled : t.enabled = true) :
    t.cycleEnd.Legal := by
  cases pending : t.queued with
  | none =>
    obtain ⟨-, current, last, -⟩ := h.sending a sending
    rw [cycleEnd_of_none pending]
    exact toIdle_legal enabled pending (last ▸ current)
  | some x =>
    rw [cycleEnd_of_pending pending]
    exact takeSet_legal (t := { t with queued := none }) enabled rfl x

theorem Transmitter.Legal.frameEnd (h : t.Legal) : t.frameEnd.Legal := by
  cases state : t.state with
  | idle => rwa [frameEnd_of_idle state]
  | sending a =>
    cases enabled : t.enabled with
    | false =>
      rw [frameEnd_of_disabled state enabled]
      exact t.silenced_legal
    | true =>
      cases next : t.cycle.find? (fun b => decide (a < b)) with
      | none =>
        rw [frameEnd_of_last state enabled next]
        exact h.cycleEnd state enabled
      | some b =>
        obtain ⟨-, current, last, refresh⟩ := h.sending a state
        rw [frameEnd_of_next state enabled next]
        exact sending_legal rfl (List.mem_of_find?_eq_some next) h.ascending current last refresh

theorem Transmitter.Legal.refreshed (h : t.Legal) : t.refreshed.Legal := by
  by_cases due : t.refreshDue = true
  · obtain ⟨idle, enabled, ms, runs, -⟩ := refreshDue_iff.mp due
    obtain ⟨-, -, some⟩ := h.refresh (Option.isSome_of_eq_some runs)
    obtain ⟨x, last⟩ := Option.isSome_iff_exists.mp some
    by_cases empty : t.mask = 0
    · rw [refreshed_of_empty due last empty]
      exact idle_legal idle (h.idle idle) (fun _ => ⟨enabled, some⟩) (h.disabled idle)
    · rw [refreshed_of_racks due last empty]
      exact takeSet_legal enabled (h.idle idle).2.2 x
  · rwa [refreshed_of_not_due due]

/-- An IDLE transmitter that is disabled lets its last set go, so a disabled one has none to refresh (R129). -/
theorem Transmitter.Legal.configure (h : t.Legal) (enabled : Bool) (mask : BitVec 4) :
    (t.configure enabled mask).Legal := by
  obtain ⟨-, k⟩ | ⟨keeps, k⟩ := t.configure_cases enabled mask <;> rw [k]
  · exact silenced_legal _
  · cases state : t.state with
    | idle =>
      have stays : t.enabled = true → enabled = true := fun on =>
        Bool.eq_true_of_not_eq_false fun off => keeps ⟨state, on, off⟩
      refine idle_legal rfl (h.idle state) (fun runs => ?_) fun off => ?_
      · obtain ⟨-, on, last⟩ := h.refresh runs
        exact ⟨stays on, last⟩
      · exact h.disabled state (Bool.eq_false_iff.mpr fun on => absurd (stays on) (Bool.eq_false_iff.mp off))
    | sending a =>
      obtain ⟨rack, current, last, refresh⟩ := h.sending a state
      exact sending_legal rfl rack h.ascending current last refresh

theorem Transmitter.Legal.tick (h : t.Legal) : t.tick.Legal where
  idle := h.idle
  sending a sending := by
    obtain ⟨rack, current, last, stopped⟩ := h.sending a sending
    exact ⟨rack, current, last, by simp only [Transmitter.tick, stopped, Option.map_none]⟩
  ascending := h.ascending
  refresh runs := h.refresh (by simpa only [Transmitter.tick, Option.isSome_map] using runs)
  disabled := h.disabled

end

/-! ### What leaves the transmitters as they are -/

theorem checkTimeout_links (d : Desk) (s : State) : (checkTimeout d s).links = s.links := by
  obtain ⟨-, k⟩ | ⟨-, k⟩ := checkTimeout_cases d s <;> rw [k]
  rw [raiseEvent_links, State.setMonitor_links]

theorem expireFade_links (d : Desk) (s : State) : (expireFade d s).links = s.links := by
  obtain ⟨-, k⟩ | ⟨-, k⟩ := expireFade_cases d s <;> rw [k]
  exact State.setMonitor_links ..

theorem levelsArrive_links (d : Desk) (base : Nat) (levels : List Byte) (s : State) :
    (levelsArrive d base levels s).links = s.links := by
  unfold levelsArrive
  simp only
  split
  · rw [raiseEvent_links, State.setMonitor_links]
  · exact State.setMonitor_links ..

theorem acceptContact_links (c : Fin 4) (s : State) : (acceptContact c s).links = s.links := by
  obtain k | k := acceptContact_cases c s <;> rw [k]
  · rfl
  · exact raiseEvent_links ..

theorem debounceEnd_links (c : Fin 4) (s : State) : (debounceEnd c s).links = s.links := by
  unfold debounceEnd
  split
  · exact acceptContact_links c s
  · rfl

theorem changeContact_links (c : Fin 4) (high : Bool) (s : State) :
    (changeContact c high s).links = s.links := by
  unfold changeContact
  simp only
  split
  · rfl
  · split
    · rfl
    · split
      · exact acceptContact_links ..
      · rfl

theorem owedAdvance_links (c : Fin 3) (s : State) : (owedAdvance c s).links = s.links := by
  unfold owedAdvance
  split
  · obtain ⟨-, k⟩ | ⟨detail, -, k⟩ := advanceClock_cases c s <;> rw [k]
    · rfl
    · exact raiseEvent_links ..
  · rfl

theorem storeCompleted_links (s : State) : (storeCompleted s).links = s.links := by
  unfold storeCompleted
  split
  · exact raiseEvent_links ..
  · rfl
  · rfl

theorem storeFaulted_links (s : State) : (storeFaulted s).links = s.links := by
  unfold storeFaulted
  split
  · exact raiseEvent_links ..
  · rfl
  · rfl

theorem scanStart_links (s : State) : (scanStart s).links = s.links := by
  rw [scanStart_eq, State.scanStarted]

/-- A restart leaves the transmitters as they stand (R132). -/
theorem restartPart_links (d : Desk) (s : State) : (restartPart d s).links = s.links := rfl

theorem restartMoment_links (s : State) : (restartMoment s).links = s.links := by
  unfold restartMoment
  split <;> rfl

theorem replyDone_links (d : Desk) (s : State) : (replyDone d s).links = s.links := by
  unfold replyDone
  split
  · rfl
  · simp only
    split
    · exact State.setReplies_links ..
    · exact State.setReplies_links ..
    · rw [State.setBuffer_links, State.setReplies_links]
    · rw [restartPart_links, State.setReplies_links]

theorem scanWorkEvents_links (s : State) : (scanWorkEvents s).links = s.links :=
  (SameButEvents.raiseAll ..).links

/-- SET LINK alone writes a transmitter (R128). -/
theorem perform_links {r : Request} (other : ∀ link enabled mask, r ≠ .setLink link enabled mask) (s : State) :
    (perform r s).state.links = s.links := by
  cases r with
  | setLink link enabled mask => exact absurd rfl (other link enabled mask)
  | go | goto | back | pause | resume | release | loadList | unload | setMaster | setRate
  | setPlaybackTimes => exact (SameButEvents.playbackOwner rfl s).links
  | setDesk d t act fade mrg rts =>
    simp only [perform, ownerSetDesk]
    (repeat' split) <;> first | rfl | exact (checkTimeout_links ..).trans (State.setMonitor_links ..)
  | setContact c e t =>
    simp only [perform, ownerSetContact]
    (repeat' split) <;> first | rfl | exact debounceEnd_links ..
  | readDesk d c =>
    simp only [perform, ownerReadDesk]
    (repeat' split) <;> first | rfl | exact State.setReceiver_links ..
  | unparkAll | setGrandMaster | setScan | takeReports | setReportMask | clearFlags | store | restart
  | readStatus | readTriggers => rfl
  | _ =>
    simp only [perform, ownerWriteCue, writeCheckedCue, ownerDeleteCue, ownerClearList, ownerSetCircuit,
      ownerCopyBank, ownerClearBank, ownerSelectBank, ownerCancelSwap, ownerLoadLaw, ownerPark, ownerUnpark,
      ownerBlackout, ownerSetClock, ownerClockAction, ownerSetWatch, ownerSetRoute, ownerReadPlayback,
      ownerReadChannel, ownerReadCircuit, ownerReadCue, ownerReadBankEntry, ownerReadLaw, refuse]
    (repeat' split) <;> rfl

/-! ### The invariant -/

section
variable {s t : State}

theorem LinksInv.of_links (h : LinksInv s) (links : t.links = s.links := by rfl) : LinksInv t := fun l => by
  rw [links]
  exact h l

theorem LinksInv.setLink (h : LinksInv s) (l : Fin 4) {x : Transmitter} (legal : x.Legal) :
    LinksInv (s.setLink l x) := fun k => by
  rw [State.setLink_links, Table.get_set]
  split
  · exact legal
  · exact h k

theorem LinksInv.powerOn (s : State) : LinksInv (powerOn s) := fun l => by
  simp only [Machine.powerOn, Table.get_map]
  exact Transmitter.afterPowerOn_legal ..

theorem LinksInv.tick (h : LinksInv s) : LinksInv (advanceMillisecond s) := fun l => by
  simp only [advanceMillisecond, Table.get_map]
  exact (h l).tick

theorem LinksInv.ownerSetLink (h : LinksInv s) (link enabled mask : Byte) :
    LinksInv (ownerSetLink link enabled mask s).state := by
  unfold Machine.ownerSetLink
  split
  · exact h
  · split
    · exact h
    · split
      · exact h
      · exact h.setLink _ ((h _).configure _ _)

theorem LinksInv.perform (h : LinksInv s) (r : Request) : LinksInv (perform r s).state := by
  by_cases setLink : ∃ link enabled mask, r = .setLink link enabled mask
  · obtain ⟨link, enabled, mask, rfl⟩ := setLink
    exact h.ownerSetLink link enabled mask
  · exact h.of_links (perform_links (fun link enabled mask e => setLink ⟨link, enabled, mask, e⟩) s)

theorem LinksInv.keptByCommands : KeptByCommands LinksInv where
  port d p s h := h.of_links (State.setPort_links s d p)
  processor _ _ h := h.of_links
  held _ _ h := h.of_links
  owner r _ h := h.perform r

/-- Each transmitter takes, holds or discards the post of its own link (R79, R124). -/
theorem LinksInv.postSets (h : LinksInv s) : LinksInv (postSets s) := by
  obtain ⟨choices, posted⟩ := postSets_posted s
  refine LinksInv.of_links (s := s.posted choices) (fun l => ?_) posted.links
  rw [State.posted, Table.get_tab]
  exact (h l).post _

theorem LinksInv.computeEnd (h : LinksInv s) : LinksInv (computeEnd s) := by
  refine computeEnd_keeps (fun u k => ?_) (fun x rest u k => ?_) (fun u k => ?_)
    (fun u k => k.of_links (SameWatched.swapDone u).links) (fun u k => k.of_links (scanWorkEvents_links u))
    (fun u w k => k.of_links (SameOutside.evaluateWatch u w).links) (fun u k => k.of_links)
    (fun u k => keptByCommands.arbitrate k) h
  · exact LinksInv.postSets k.of_links
  · exact keptByCommands.takeHeld
      (fun r t v kv => kv.of_links (SameButEvents.takeTask SameButEvents.raiseEvent r t v).links) x k.of_links
  · rw [darkTest_eq]
    exact k.of_links

/-- Every occurrence keeps the transmitters legal. -/
theorem LinksInv.keptByOccurrences : KeptByOccurrences LinksInv where
  queue _ _ h := h.of_links
  choice _ _ h := h.of_links
  power s _ := .powerOn s
  millisecond _ h := h.tick
  receiver _ _ _ h := h.of_links (State.setReceiver_links ..)
  levels d base levels s h := h.of_links (levelsArrive_links d base levels s)
  command d c _ h := keptByCommands.commandArrives d c h
  timeout d s h := h.of_links (checkTimeout_links d s)
  lossFade d s h := h.of_links (expireFade_links d s)
  reply d s h := h.of_links (replyDone_links d s)
  restart s h := h.of_links (restartMoment_links s)
  scan s _ _ h := h.of_links (scanStart_links s)
  compute _ _ h := h.computeEnd
  frame l _ h := h.setLink l (h l).frameEnd
  refresh l _ h := h.setLink l (h l).refreshed
  input c high s h := h.of_links (changeContact_links c high s)
  debounce c s h := h.of_links (debounceEnd_links c s)
  clock c s h := h.of_links (owedAdvance_links c s)
  stored s h := h.of_links (storeCompleted_links s)
  faulted s h := h.of_links (storeFaulted_links s)

end

/-- Settles O59: each operation of a transmitter keeps it legal, and every step is made of occurrences. -/
theorem stepKeepsTheRackLinks : Obligations.StepKeepsTheRackLinks :=
  fun _ _ h step => step_keeps LinksInv.keptByOccurrences h step

end Sys2Proof.Machine
end

section
/-! PROOFS. O26 and O28: the racks of a cycle, the end of a rack frame, the refresh of an idle link, and SET LINK
(R123, R125, R127 to R130, R178). -/

namespace Sys2Proof.Machine

/-! ### O26: cycles and refresh (R123, R125, R127, R129, R178) -/

theorem maskNamesItsRacks : Clause.MaskNamesItsRacks := fun mask =>
  ⟨fun _ => mem_maskRacks, maskRacks_pairwise mask⟩

theorem State.setLink_self (s : State) (l : Fin 4) : s.setLink l (s.links.get l) = s := by
  rw [State.setLink, Table.set_get_self]

theorem exec_rackFrameEnd {l : Fin 4} {s : State} {t : Transmitter} (h : (s.links.get l).frameEnd = t) :
    exec (.rackFrameEnd l) s = .next (s.setLink l t) := h ▸ rfl

theorem exec_refresh {l : Fin 4} {s : State} {t : Transmitter} (h : (s.links.get l).refreshed = t) :
    exec (.refresh l) s = .next (s.setLink l t) := h ▸ rfl

theorem rackFrameEndGoesOnOrEndsTheCycle : Clause.RackFrameEndGoesOnOrEndsTheCycle := by
  intro l s t idle
  refine ⟨fun state => ?rests, fun a sending ascending => ⟨fun disabled => ?silenced, fun enabled =>
    ⟨fun b hb above least => ?next, fun last => ?_⟩⟩⟩
  case rests => rw [exec_rackFrameEnd (Transmitter.frameEnd_of_idle state), State.setLink_self]
  case silenced => exact exec_rackFrameEnd (Transmitter.frameEnd_of_disabled sending disabled)
  case next =>
    exact exec_rackFrameEnd (Transmitter.frameEnd_of_next sending enabled
      ((nextRack_eq_some ascending).mpr ⟨hb, above, least⟩))
  have ended : t.frameEnd = t.cycleEnd :=
    Transmitter.frameEnd_of_last sending enabled (nextRack_eq_none.mpr last)
  refine ⟨fun none => ?_, fun x pending => ?_⟩
  · refine exec_rackFrameEnd (ended.trans ((Transmitter.cycleEnd_of_none none).trans ?_))
    simp only [Transmitter.toIdle, idle, none]
  · have taken := ended.trans (Transmitter.cycleEnd_of_pending pending)
    refine ⟨fun empty => exec_rackFrameEnd (taken.trans (Transmitter.takeSet_of_empty empty)), fun racks => ?_⟩
    obtain ⟨b, rest, cycle, begun⟩ := Transmitter.takeSet_of_racks (t := { t with queued := none }) (x := x) racks
    exact ⟨b, rest, cycle, exec_rackFrameEnd (taken.trans begun)⟩

theorem refreshSendsTheLastSetAgain : Clause.RefreshSendsTheLastSetAgain := by
  intro l s t
  refine ⟨fun ms x idle enabled runs last late => ?_, fun early => ?_⟩
  · have due : t.refreshDue = true := Transmitter.refreshDue_iff.mpr ⟨idle, enabled, ms, runs, late⟩
    refine ⟨fun empty => exec_refresh (Transmitter.refreshed_of_empty due last empty), fun racks => ?_⟩
    obtain ⟨a, rest, cycle, begun⟩ := Transmitter.takeSet_of_racks (x := x) racks
    refine ⟨a, rest, cycle, exec_refresh ((Transmitter.refreshed_of_racks due last racks).trans ?_)⟩
    rw [begun, ← last]
  · have notDue : ¬t.refreshDue = true := fun due => by
      obtain ⟨idle, enabled, ms, runs, late⟩ := Transmitter.refreshDue_iff.mp due
      obtain sending | disabled | stopped | ⟨ms', runs', young⟩ := early
      · exact sending idle
      · exact Bool.false_ne_true (disabled.symm.trans enabled)
      · cases stopped.symm.trans runs
      · obtain rfl : ms' = ms := Option.some.inj (runs'.symm.trans runs)
        exact absurd young (not_lt.mpr late)
    rw [exec_refresh (Transmitter.refreshed_of_not_due notDue), State.setLink_self]

/-- Settles O26: the racks of a mask, the end of a frame and the refresh, each from its operation's cases. -/
theorem rackLinksSendTheirCycles : Obligations.RackLinksSendTheirCycles :=
  ⟨maskNamesItsRacks, rackFrameEndGoesOnOrEndsTheCycle, refreshSendsTheLastSetAgain⟩

/-! ### O28: SET LINK (R128 to R130, R178) -/

theorem yesNo_eq_none {n : Nat} (h : 2 ≤ n) : yesNo n = none := by
  match n with
  | n + 2 => rfl

theorem yesNo_of_le {n : Nat} (h : n ≤ 1) : yesNo n = some (decide (n = 1)) := by
  match n with
  | 0 => rfl
  | 1 => rfl

/-- An enabled field stands in a reply as it came (R178). -/
theorem bYes_enabled {enabled : Byte} (h : enabled.toNat ≤ 1) : bYes (decide (enabled = 1)) = [enabled] := by
  by_cases on : enabled = 1
  · simp only [on, decide_true]
    rfl
  · have off : enabled = 0 := by bv_omega
    rw [off]
    rfl

theorem maskByte_setWidth {mask : Byte} (h : mask.toNat < 16) : maskByte (mask.setWidth 4) = mask := by
  unfold maskByte
  bv_omega

section
variable {link enabled mask : Byte} {l : Fin 4} {s : State}

theorem ownerSetLink_outOfRange (hl : number 4 link.toNat = some l) (h : 2 ≤ enabled.toNat ∨ 16 ≤ mask.toNat) :
    ownerSetLink link enabled mask s = refuse s .outOfRange := by
  simp only [ownerSetLink, hl]
  split
  · rfl
  · next read =>
    have high : 16 ≤ mask.toNat := h.resolve_left fun two => by
      rw [yesNo_eq_none two] at read
      cases read
    exact if_pos high

theorem ownerSetLink_done (hl : number 4 link.toNat = some l) (he : enabled.toNat ≤ 1) (hm : mask.toNat < 16) :
    let t := (s.links.get l).configure (decide (enabled = 1)) (mask.setWidth 4)
    ownerSetLink link enabled mask s = ⟨s.setLink l t, .done,
      bYes (decide (enabled = 1)) ++ [maskByte t.mask] ++ linkStateBytes t.state ++ bYes t.queued.isSome ++
        bYes t.last.isSome⟩ := by
  have one : (enabled.toNat = 1) = (enabled = 1) := by
    rw [← BitVec.toNat_inj]
    rfl
  simp only [ownerSetLink, hl, yesNo_of_le he, one, if_neg (not_le.mpr hm)]

end

/-- Settles O28: the settings are refused, or taken together by a transmitter that keeps or loses its last set. -/
theorem setLinkTakesBothSettings : Obligations.SetLinkTakesBothSettings := by
  intro d tag link enabled mask l s r h hl t s0 i
  refine ⟨fun out => exec_refused rfl h nofun (ownerSetLink_outOfRange hl out), fun he hm => ?_⟩
  intro taken after
  have same : s0.links.get l = t := by rw [begun_links]
  have configured : t.configure (decide (enabled = 1)) (mask.setWidth 4) = after := by
    have off : decide (enabled = 1) = false ↔ enabled = 0 := by
      rw [decide_eq_false_iff_not]
      bv_omega
    obtain ⟨disabling, k⟩ | ⟨keeps, k⟩ := t.configure_cases (decide (enabled = 1)) (mask.setWidth 4) <;> rw [k]
    · rw [off] at disabling
      simp only [after, if_pos disabling, Transmitter.silenced, disabling.1, taken]
    · rw [off] at keeps
      exact (if_neg keeps).symm
  have owner := ownerSetLink_done (s := s0) hl he hm
  simp only [same] at owner
  refine exec_done rfl h nofun (owner.trans ?_)
  rw [bYes_enabled he, Transmitter.configure_mask, maskByte_setWidth hm, Transmitter.configure_state, configured]
  cases t.state <;> rfl

end Sys2Proof.Machine
end

section
/-! PROOFS. The operations of the contacts and of the cue clocks, case by case: a change of an input
and its debounce, an advance and a match, and the actions on a clock (R133, R134, R136 to R138). -/

namespace Sys2Proof.Machine

/-! ### Contacts (R133, R134) -/

theorem Edge.names_iff {x : Edge} {high : Bool} :
    x.names high = true ↔ x = .both ∨ (x = .rising ∧ high = true) ∨ (x = .falling ∧ high = false) := by
  cases x <;> simp [Edge.names]

theorem State.setContact_self (s : State) (c : Fin 4) : s.setContact c (s.triggers.contacts.get c) = s := by
  rw [State.setContact, Table.set_get_self]

theorem State.setContact_setContact (s : State) (c : Fin 4) (x y : Contact) :
    (s.setContact c x).setContact c y = s.setContact c y := by
  simp only [State.setContact, Table.set_set]

/-- The input level of a contact is accepted; CONTACT is raised with the code of RISING or FALLING (R134). -/
theorem acceptContact_setContact (c : Fin 4) (x : Contact) (s : State) :
    acceptContact c (s.setContact c x) =
      let s' := s.setContact c { x with accepted := x.input, timer := none }
      if x.edge = .both ∨ (x.edge = .rising ∧ x.input = true) ∨ (x.edge = .falling ∧ x.input = false) then
        raiseEvent ⟨.contact, numbered c, if x.input then 1 else 2⟩ s'
      else s' := by
  simp only [acceptContact, State.setContact_triggers, Table.get_set_self, State.setContact_setContact,
    Edge.names_iff, edgeDetail, Edge.code]

theorem acceptContact_contact (c : Fin 4) (s : State) :
    (acceptContact c s).triggers.contacts.get c =
      { s.triggers.contacts.get c with accepted := (s.triggers.contacts.get c).input, timer := none } := by
  obtain k | k := acceptContact_cases c s <;> rw [k]
  · exact Table.get_set_self ..
  · rw [(SameButEvents.raiseEvent _ _).contacts]
    exact Table.get_set_self ..

section
variable {c : Fin 4} {s : State}

theorem changeContact_same : changeContact c (s.triggers.contacts.get c).input s = s := if_pos rfl

theorem changeContact_back {high : Bool} (change : high ≠ (s.triggers.contacts.get c).input)
    (back : high = (s.triggers.contacts.get c).accepted) :
    changeContact c high s =
      s.setContact c { s.triggers.contacts.get c with input := high, timer := none } :=
  (if_neg change).trans (if_pos back)

theorem changeContact_away {high : Bool} (change : high ≠ (s.triggers.contacts.get c).input)
    (away : high ≠ (s.triggers.contacts.get c).accepted) :
    changeContact c high s =
      let s' := s.setContact c { s.triggers.contacts.get c with input := high, timer := some 0 }
      if (s.triggers.contacts.get c).debounce = 0 then acceptContact c s' else s' :=
  (if_neg change).trans (if_neg away)

theorem debounceEnd_expired {t : Nat} (runs : (s.triggers.contacts.get c).timer = some t)
    (late : (s.triggers.contacts.get c).debounce ≤ t) : debounceEnd c s = acceptContact c s :=
  if_pos (Contact.expired_iff.mpr ⟨t, runs, late⟩)

end

/-! ### Cue clocks (R136 to R138) -/

section
variable {x : CueClock}

theorem CueClock.advance_oneShot (last : x.count + 1 = x.compare) (state : x.state = .running)
    (mode : x.mode = .oneShot) :
    x.advance = ({ x with count := x.compare, owed := false, state := .stopped }, some 0) := by
  simp only [CueClock.advance, CueClock.matched, state, mode, last, if_true]

theorem CueClock.advance_repeat (last : x.count + 1 = x.compare) (state : x.state = .running)
    (mode : x.mode = .repeat) : x.advance = ({ x with count := x.load, owed := false }, some 1) := by
  simp only [CueClock.advance, CueClock.matched, state, mode, last, if_true]

theorem CueClock.advance_free (last : x.count + 1 = x.compare) (state : x.state = .running)
    (mode : x.mode = .free) : x.advance = ({ x with count := x.compare, owed := false }, some 1) := by
  simp only [CueClock.advance, CueClock.matched, state, mode, last, if_true]

theorem CueClock.advance_stopping (last : x.count + 1 = x.compare) (state : x.state = .stopping) :
    x.advance = ({ x with count := x.compare, owed := false, state := .stopped }, some 0) := by
  simp only [CueClock.advance, CueClock.matched, state, last, if_true]

theorem CueClock.advance_counts (more : x.count + 1 ≠ x.compare) (state : x.state ≠ .stopped) :
    x.advance = ({ x with count := x.count + 1, owed := false }, none) := by
  unfold CueClock.advance
  split
  · next stopped => exact absurd stopped state
  · exact if_neg more
  · exact if_neg more

theorem CueClock.act_stopAtMatch (h : x.state ≠ .stopped) :
    x.act .stopAtMatch = some { x with state := .stopping } := by
  cases state : x.state with
  | stopped => exact absurd state h
  | running | stopping => simp only [CueClock.act, state]

theorem CueClock.act_stopAtMatch_stopped (h : x.state = .stopped) : x.act .stopAtMatch = none := by
  simp only [CueClock.act, h]

end

section
variable {c : Fin 3} {s : State} {y : CueClock}

theorem advanceClock_match {detail : Nat} (h : (s.triggers.clocks.get c).advance = (y, some detail)) :
    advanceClock c s = raiseEvent ⟨.clock, numbered c, detail⟩ (s.setClock c y) := by
  simp only [advanceClock, h]

theorem advanceClock_counts (h : (s.triggers.clocks.get c).advance = (y, none)) :
    advanceClock c s = s.setClock c y := by
  simp only [advanceClock, h]

end

end Sys2Proof.Machine
end

section
/-! PROOFS. O41 and O42: contacts and cue clocks as their inputs, advances and requests leave them (R133 to R139). -/

namespace Sys2Proof.Machine

/-! ### O41: contacts (R133 to R135) -/

theorem exec_contactInputChange (c : Fin 4) (high : Bool) (s : State) :
    exec (.contactInputChange c high) s = .next (changeContact c high s) := rfl

theorem exec_debounceExpiry (c : Fin 4) (s : State) : exec (.debounceExpiry c) s = .next (debounceEnd c s) := rfl

theorem contactsAreDebounced : Clause.ContactsAreDebounced := by
  intro c s x accepted
  have expires : debounceEnd c s = acceptContact c s → debounceEnd c s = accepted x.input := fun ends => by
    rw [ends]
    conv_lhs => rw [← s.setContact_self c]
    exact acceptContact_setContact c x s
  simp only [exec_contactInputChange, exec_debounceExpiry, Host.Outcome.next.injEq]
  refine ⟨fun high change => ⟨changeContact_back change, fun away slow => ?_, fun away zero => ?_⟩,
    changeContact_same, fun t runs late => expires (debounceEnd_expired runs late), fun early =>
    debounceEnd_early fun t runs => ?_⟩
  · exact (changeContact_away change away).trans (if_neg (Nat.ne_of_gt slow))
  · exact ((changeContact_away change away).trans (if_pos zero)).trans (acceptContact_setContact c _ s)
  · obtain stopped | ⟨t', runs', early⟩ := early
    · cases stopped.symm.trans runs
    · obtain rfl : t' = t := Option.some.inj (runs'.symm.trans runs)
      exact early

section
variable {contact edge debounce : Byte} {c : Fin 4} {s : State}

theorem ownerSetContact_outOfRange (hc : number 4 contact.toNat = some c) (h : 4 ≤ edge.toNat) :
    ownerSetContact contact edge debounce s = refuse s .outOfRange := by
  have none : Edge.ofCode edge.toNat = none := by
    generalize edge.toNat = n at h
    match n with
    | n + 4 => rfl
  simp only [ownerSetContact, hc, none]

theorem ownerSetContact_done (hc : number 4 contact.toNat = some c) {e : Edge}
    (he : Edge.ofCode edge.toNat = some e) :
    let ms := if 250 < debounce.toNat then 250 else debounce.toNat
    let s1 := s.setContact c { s.triggers.contacts.get c with
      edge := e, debounce := ms, timer := (s.triggers.contacts.get c).timer.map fun _ => 0 }
    let s2 := if ms = 0 then debounceEnd c s1 else s1
    ownerSetContact contact edge debounce s = ⟨s2, .done,
      [edge, BitVec.ofNat 8 ms, if (s2.triggers.contacts.get c).accepted then 1 else 0]⟩ := by
  have clamped : min debounce.toNat 250 = if 250 < debounce.toNat then 250 else debounce.toNat := by
    split <;> omega
  have code : b1 e.code = [edge] := by
    rw [← Edge.ofCode_eq_some.mp he, b1, BitVec.ofNat_toNat, BitVec.setWidth_eq]
  simp only [ownerSetContact, hc, he, clamped, code]
  rfl

end

/-- A timer restarted under a debounce of 0 is at its end, and the input level is accepted (R134, R135). -/
theorem setContactRestartsARunningTimer : Clause.SetContactRestartsARunningTimer := by
  intro d tag contact edge debounce c s r i h hc x s0 ms
  have same : s0.triggers.contacts.get c = x := by rw [begun_triggers]
  refine ⟨fun out => exec_refused rfl h nofun (ownerSetContact_outOfRange hc out), fun e he => ?_⟩
  intro s1 data
  have owner := ownerSetContact_done (s := s0) (debounce := debounce) hc he
  simp only [same] at owner
  have set : s1.triggers.contacts.get c = { x with edge := e, debounce := ms, timer := x.timer.map fun _ => 0 } :=
    Table.get_set_self ..
  refine ⟨fun still => exec_done rfl h nofun (owner.trans ?_), fun zero runs =>
    ⟨debounceEnd c s1, rfl, exec_done rfl h nofun (owner.trans ?_)⟩⟩
  · have stays : (if ms = 0 then debounceEnd c s1 else s1) = s1 := by
      obtain slow | stopped := still
      · exact if_neg (Nat.ne_of_gt slow)
      · refine ite_eq_right_iff.mpr fun _ => debounceEnd_early fun t runs => ?_
        rw [set, stopped] at runs
        cases runs
    rw [stays, set]
  · obtain ⟨t, runs⟩ := Option.isSome_iff_exists.mp runs
    have ends : debounceEnd c s1 = acceptContact c s1 := by
      refine debounceEnd_expired (t := 0) ?_ ?_
      · rw [set, runs]
        rfl
      · rw [set]
        exact Nat.le_of_eq zero
    rw [if_pos zero, ends, acceptContact_contact, set]

/-- Settles O41: the input and its timer case by case, and SET CONTACT by the timer that it finds. -/
theorem contactsFollowTheirInputs : Obligations.ContactsFollowTheirInputs :=
  ⟨contactsAreDebounced, setContactRestartsARunningTimer⟩

/-! ### O42: cue clocks (R136 to R139) -/

theorem exec_clockMatch (c : Fin 3) (s : State) : exec (.clockMatch c) s = .next (owedAdvance c s) := rfl

theorem clockMatchActsByStateAndMode : Clause.ClockMatchActsByStateAndMode := by
  intro c s x
  simp only [exec_clockMatch, Host.Outcome.next.injEq]
  have advances : x.owed = true → owedAdvance c s = advanceClock c s := fun owed => if_pos owed
  refine ⟨owedAdvance_none, fun owed last => ?_, fun owed state more => ?_⟩
  · rw [advances owed]
    exact ⟨fun state mode => advanceClock_match (CueClock.advance_oneShot last state mode),
      fun state mode => advanceClock_match (CueClock.advance_repeat last state mode),
      fun state mode => advanceClock_match (CueClock.advance_free last state mode),
      fun state => advanceClock_match (CueClock.advance_stopping last state)⟩
  · rw [advances owed]
    exact advanceClock_counts (CueClock.advance_counts more state)

section
variable {clock : Byte} {c : Fin 3} {s : State}

theorem ownerClockAction_done {action : Byte} {a : ClockAction} {y : CueClock} (hc : number 3 clock.toNat = some c)
    (ha : ClockAction.ofCode action.toNat = some a) (acts : (s.triggers.clocks.get c).act a = some y) :
    ownerClockAction clock action s = ⟨s.setClock c y, .done, b1 y.state.code ++ b4 y.count.toNat⟩ := by
  simp only [ownerClockAction, hc, ha, acts]

theorem ownerClockAction_wrongState {action : Byte} {a : ClockAction} (hc : number 3 clock.toNat = some c)
    (ha : ClockAction.ofCode action.toNat = some a) (acts : (s.triggers.clocks.get c).act a = none) :
    ownerClockAction clock action s = refuse s .wrongState := by
  simp only [ownerClockAction, hc, ha, acts]

theorem ownerClockAction_outOfRange {action : Byte} (hc : number 3 clock.toNat = some c) (h : 3 < action.toNat) :
    ownerClockAction clock action s = refuse s .outOfRange := by
  have none : ClockAction.ofCode action.toNat = none := by
    generalize action.toNat = n at h
    match n with
    | n + 4 => rfl
  simp only [ownerClockAction, hc, none]

variable {mode : Byte} {compare load : Quad}

theorem ownerSetClock_outOfRange (hc : number 3 clock.toNat = some c)
    (h : 3 ≤ mode.toNat ∨ 16777215 < compare.toNat ∨ 16777215 < load.toNat) :
    ownerSetClock clock mode compare load s = refuse s .outOfRange := by
  simp only [ownerSetClock, hc]
  split
  · rfl
  · next m known =>
    have code := ClockMode.ofCode_eq_some.mp known
    have small : m.code < 3 := by cases m <;> decide
    exact if_pos (by omega)

theorem ownerSetClock_done (hc : number 3 clock.toNat = some c) {m : ClockMode}
    (hm : ClockMode.ofCode mode.toNat = some m) (hcompare : compare.toNat ≤ 16777215)
    (hload : load.toNat ≤ 16777215) :
    let x := s.triggers.clocks.get c
    ownerSetClock clock mode compare load s =
      ⟨s.setClock c { x with mode := m, compare := compare.setWidth 24, load := load.setWidth 24 }, .done,
        [mode] ++ quadBytes compare ++ quadBytes load ++ b1 x.state.code ++ b4 x.count.toNat⟩ := by
  have code : b1 m.code = [mode] := by
    rw [← ClockMode.ofCode_eq_some.mp hm, b1, BitVec.ofNat_toNat, BitVec.setWidth_eq]
  have bytes : ∀ q : Quad, q.toNat ≤ 16777215 → b4 (q.setWidth 24).toNat = quadBytes q := fun q small => by
    rw [quadBytes_eq, BitVec.toNat_setWidth, Nat.mod_eq_of_lt (by omega)]
  have fits : ¬(2 ^ 24 ≤ compare.toNat ∨ 2 ^ 24 ≤ load.toNat) := by omega
  simp only [ownerSetClock, hc, hm, if_neg fits, code, bytes compare hcompare, bytes load hload]

end

theorem clockRequestsFollowTheirTables : Clause.ClockRequestsFollowTheirTables := by
  intro d tag clock c s hc x
  refine ⟨fun action h => ?action, fun mode compare load h => ?settings⟩
  case action =>
    intro r s0 refused left
    have same : s0.triggers.clocks.get c = x := by rw [begun_triggers]
    have taken : ∀ {a y}, ClockAction.ofCode action.toNat = some a → x.act a = some y → left y := fun ha acts =>
      exec_done rfl h nofun (ownerClockAction_done hc ha (by rwa [same]))
    refine ⟨?_, ?_, ?_, ?_, ?_, ?_⟩
    · rintro rfl
      exact taken (a := .start) rfl rfl
    · rintro rfl
      exact taken (a := .continue) rfl rfl
    · rintro rfl
      exact taken (a := .stop) rfl rfl
    · rintro rfl stopped
      have acts : (s0.triggers.clocks.get c).act .stopAtMatch = none :=
        CueClock.act_stopAtMatch_stopped (by rwa [same])
      exact exec_refused rfl h nofun (ownerClockAction_wrongState (action := 3) hc rfl acts)
    · rintro rfl runs
      exact taken (a := .stopAtMatch) rfl (CueClock.act_stopAtMatch runs)
    · exact fun out => exec_refused rfl h nofun (ownerClockAction_outOfRange hc out)
  case settings =>
    intro r i s0
    refine ⟨fun out => exec_refused rfl h nofun (ownerSetClock_outOfRange hc out), fun m hm hcompare hload => ?_⟩
    have owner := ownerSetClock_done (s := s0) hc hm hcompare hload
    simp only [s0, begun_triggers] at owner
    exact exec_done rfl h nofun owner

/-- Settles O42: the advance that a clock owes by its state and mode, and the requests by their tables. -/
theorem cueClocksRunAndMatch : Obligations.CueClocksRunAndMatch :=
  ⟨clockMatchActsByStateAndMode, clockRequestsFollowTheirTables⟩

end Sys2Proof.Machine
end

section
/-! PROOFS. O43: SET WATCH and SET ROUTE, and the codes of the sources and tasks of a route (R141, R142, R178, R180). -/

namespace Sys2Proof.Machine

/-! ### The codes of sources and tasks (R142, R180) -/

/-- A source is named by the code of its event kind and, when it requires a subject, by that subject. -/
theorem Source.ofCode_eq_some {kind n : Nat} {x : Source} :
    Source.ofCode kind n = some x ↔ kind = x.kind.code ∧ ∀ subject ∈ x.subject, n = subject := by
  constructor
  · intro h
    unfold Source.ofCode at h
    split at h <;>
      simp only [Option.map_eq_some_iff, number_eq_some, deskOfCode_eq_some, Option.some.injEq, reduceCtorEq] at h
    case h_5 => -- SWAP DONE
      subst h
      exact ⟨rfl, nofun⟩
    all_goals
      obtain ⟨_, rfl, rfl⟩ := h
      exact ⟨rfl, fun _ named => Option.some.inj named⟩
  · rintro ⟨rfl, subject⟩
    cases x with
    | swapDone => rfl
    | deskLost d | deskBack d =>
      obtain rfl := subject _ rfl
      cases d <;> rfl
    | playbackGo i | playbackDone i | contact i | clock i | watch i =>
      obtain rfl := subject _ rfl
      exact congrArg (Option.map _) (number_numbered i)

/-- A task is named by its code and, when it has a target, by that target. -/
theorem Task.ofCode_eq_some {kind n : Nat} {x : Task} :
    Task.ofCode kind n = some x ↔ kind = x.code ∧ ∀ target ∈ x.target, n = target := by
  constructor
  · intro h
    unfold Task.ofCode at h
    split at h <;> simp only [Option.map_eq_some_iff, number_eq_some, Option.some.injEq, reduceCtorEq] at h
    case h_9 | h_10 | h_11 => -- BLACKOUT ON, BLACKOUT OFF and SWAP NOW
      subst h
      exact ⟨rfl, nofun⟩
    all_goals
      obtain ⟨_, rfl, rfl⟩ := h
      exact ⟨rfl, fun _ named => Option.some.inj named⟩
  · rintro ⟨rfl, target⟩
    match x, target with
    | .blackoutOn, _ | .blackoutOff, _ | .swapNow, _ => rfl
    | .go i, target | .pause i, target | .resume i, target | .release i, target | .start i, target
    | .continue i, target | .stop i, target | .stopAtMatch i, target =>
      obtain rfl := target _ rfl
      exact congrArg (Option.map _) (number_numbered i)

theorem sourcesAndTasksAreReadFromTheirCodes : Clause.SourcesAndTasksAreReadFromTheirCodes := by
  refine fun kind n => ⟨fun x => Source.ofCode_eq_some.trans ?_, fun x => Task.ofCode_eq_some.trans ?_⟩
  · cases x with
    | deskLost d | deskBack d =>
      cases d <;> simp [Source.kind, Source.subject, EventKind.code, deskCode]
    | _ => simp [Source.kind, Source.subject, EventKind.code, numbered]
  · cases x <;> simp [Task.code, Task.target, numbered]

/-! ### SET WATCH (R141) -/

/-- The enabled field of a request, read as yes or no (R178). -/
theorem yesNo_enabled {enabled : Byte} (h : enabled.toNat < 2) :
    yesNo enabled.toNat = some (decide (enabled = 1)) := by
  have one : (enabled.toNat = 1) = (enabled = 1) := by
    rw [← BitVec.toNat_inj]
    rfl
  simp only [yesNo_of_le (Nat.le_of_lt_succ h), one]

section
variable {watch condition threshold enabled : Byte} {circuit : Half} {w : Fin 8} {s : State}

theorem ownerSetWatch_outOfRange (hw : number 8 watch.toNat = some w)
    (h : circuit.toNat = 0 ∨ 1536 < circuit.toNat ∨ 2 ≤ condition.toNat ∨ 2 ≤ enabled.toNat) :
    ownerSetWatch watch circuit condition threshold enabled s = refuse s .outOfRange := by
  simp only [ownerSetWatch, hw]
  split
  · next k cond en hk hcond hen =>
    have place := number_eq_some.mp hk
    have first := numbered_pos k
    have last := numbered_le k
    have code := Condition.ofCode_eq_some.mp hcond
    have small : cond.code < 2 := by cases cond <;> decide
    have two : 2 ≤ enabled.toNat := by omega
    rw [yesNo_eq_none two] at hen
    cases hen
  · rfl

theorem ownerSetWatch_done (hw : number 8 watch.toNat = some w) {k : Fin 1536} (hk : circuit.toNat = numbered k)
    {cond : Condition} (hcond : Condition.ofCode condition.toNat = some cond) (hen : enabled.toNat < 2) :
    ownerSetWatch watch circuit condition threshold enabled s =
      ⟨s.setWatch w
        ⟨k, cond, threshold, decide (enabled = 1), if enabled = 1 then .priming else .off, none⟩, .done, []⟩ := by
  simp only [ownerSetWatch, hw, hk, number_numbered, hcond, yesNo_enabled hen, decide_eq_true_eq]

end

/-! ### SET ROUTE (R142) -/

section
variable {route enabled sourceKind sourceSubject taskKind taskTarget : Byte} {x : Fin 16} {s : State}

theorem ownerSetRoute_outOfRange (hr : number 16 route.toNat = some x)
    (h : 2 ≤ enabled.toNat ∨ Source.ofCode sourceKind.toNat sourceSubject.toNat = none ∨
      Task.ofCode taskKind.toNat taskTarget.toNat = none) :
    ownerSetRoute route enabled sourceKind sourceSubject taskKind taskTarget s = refuse s .outOfRange := by
  simp only [ownerSetRoute, hr]
  split
  · next en a b hen ha hb =>
    obtain two | noSource | noTask := h
    · cases (yesNo_eq_none two).symm.trans hen
    · cases noSource.symm.trans ha
    · cases noTask.symm.trans hb
  · rfl

theorem ownerSetRoute_done (hr : number 16 route.toNat = some x) (hen : enabled.toNat < 2) {a : Source} {b : Task}
    (ha : Source.ofCode sourceKind.toNat sourceSubject.toNat = some a)
    (hb : Task.ofCode taskKind.toNat taskTarget.toNat = some b) :
    ownerSetRoute route enabled sourceKind sourceSubject taskKind taskTarget s =
      ⟨s.setRoute x ⟨decide (enabled = 1), a, b, (s.triggers.routes.get x).holdoff⟩, .done, []⟩ := by
  simp only [ownerSetRoute, hr, yesNo_enabled hen, ha, hb]

end

theorem setWatchAndSetRouteReplaceSettings : Clause.SetWatchAndSetRouteReplaceSettings := by
  intro d tag s
  refine ⟨fun watch circuit condition threshold enabled w => ?watch,
    fun route enabled sourceKind sourceSubject taskKind taskTarget x => ?route⟩
  case watch =>
    intro r i h hw s0
    exact ⟨fun out => exec_refused rfl h nofun (ownerSetWatch_outOfRange hw out), fun k cond hk hcond hen =>
      exec_done rfl h nofun (ownerSetWatch_done hw hk hcond hen)⟩
  case route =>
    intro r i h hr s0 source task
    refine ⟨fun out => exec_refused rfl h nofun (ownerSetRoute_outOfRange hr out), fun a b hen ha hb => ?_⟩
    have owner := ownerSetRoute_done (s := s0) hr hen ha hb
    rw [begun_triggers] at owner
    exact exec_done rfl h nofun owner

/-- Settles O43: each setting by whether its fields are read, and the codes by what they name. -/
theorem watchesAndRoutesAreSetWhole : Obligations.WatchesAndRoutesAreSetWhole :=
  ⟨setWatchAndSetRouteReplaceSettings, sourcesAndTasksAreReadFromTheirCodes⟩

end Sys2Proof.Machine
end

section
/-! PROOFS. O46: a chain of tasks ends within seventeen firings, since each firing sets one more of the sixteen
holdoff marks (R143, assumption 21). -/

namespace Sys2Proof.Machine

/-- Settles O46: seventeen exceeds the number of clear marks of any state. -/
theorem everyChainOfTasksEnds : Obligations.EveryChainOfTasksEnds := fun n e s deep =>
  ((raiseWithin_depth 17 n deep).same e s (Nat.lt_succ_of_le (clearRoutes_card_le s))).symm

end Sys2Proof.Machine
end

section
/-! PROOFS. O60: every step keeps the contacts, the cue clocks and the watches as R133, R136 and R140 give them. Each
operation on one of them keeps it legal, events change a clock by an action alone, and no other write of an
occurrence touches the trigger unit (R133 to R141, R148). -/

namespace Sys2Proof.Machine

/-! ### One contact (R133 to R135) -/

/-- A contact as R133 describes it: its debounce timer runs exactly when the input differs from the accepted level. -/
structure Contact.Legal (x : Contact) : Prop where
  timer : x.timer.isSome = true ↔ x.input ≠ x.accepted
  debounce : x.debounce ≤ 250

section
variable {x : Contact}

theorem Contact.Legal.stopped (debounce : x.debounce ≤ 250) (stopped : x.timer = none)
    (settled : x.input = x.accepted) : x.Legal :=
  ⟨by simp [stopped, settled], debounce⟩

theorem Contact.Legal.running (debounce : x.debounce ≤ 250) {t : Nat} (runs : x.timer = some t)
    (differs : x.input ≠ x.accepted) : x.Legal :=
  ⟨by simp [runs, differs], debounce⟩

theorem Contact.Legal.accept (h : x.Legal) : Contact.Legal { x with accepted := x.input, timer := none } :=
  .stopped h.debounce rfl rfl

theorem Contact.Legal.restarted (h : x.Legal) (e : Edge) {ms : Nat} (le : ms ≤ 250) :
    Contact.Legal { x with edge := e, debounce := ms, timer := x.timer.map fun _ => 0 } :=
  ⟨by rw [Option.isSome_map]; exact h.timer, le⟩

theorem Contact.Legal.tick (h : x.Legal) : x.tick.Legal :=
  ⟨by rw [Contact.tick, Option.isSome_map]; exact h.timer, h.debounce⟩

end

/-! ### One cue clock (R136 to R138, assumption 6) -/

/-- An advance is owed only by a clock that is not STOPPED. -/
def CueClock.Legal (x : CueClock) : Prop := x.owed = true → x.state ≠ .stopped

section
variable {x : CueClock}

theorem CueClock.legal_of_not_owed (h : x.owed = false) : x.Legal := fun owed => by
  rw [h] at owed
  cases owed

theorem CueClock.legal_of_runs (h : x.state ≠ .stopped) : x.Legal := fun _ => h

/-- An action that stops a clock leaves its advance unmade (R138). -/
theorem CueClock.act_legal {a : ClockAction} {y : CueClock} (h : x.act a = some y) : y.Legal := by
  match a, h with
  | .start, rfl | .continue, rfl => exact legal_of_runs nofun
  | .stop, rfl => exact legal_of_not_owed rfl
  | .stopAtMatch, h =>
    by_cases stopped : x.state = .stopped
    · cases (act_stopAtMatch_stopped stopped).symm.trans h
    · cases (act_stopAtMatch stopped).symm.trans h
      exact legal_of_runs nofun

theorem CueClock.advance_legal (x : CueClock) : x.advance.1.Legal := by
  obtain ⟨-, -, -, none⟩ := x.advance_keeps
  exact legal_of_not_owed none

theorem CueClock.Legal.tick (h : x.Legal) : x.tick.Legal := by
  unfold CueClock.tick
  split
  · exact h
  all_goals
    next state =>
    have runs : x.state ≠ .stopped := by simp [state]
    split <;> exact legal_of_runs runs

end

/-! ### One watch (R140, R141) -/

/-- A watch as R140 describes it: OFF exactly when it is not enabled, with a last output only in CLEAR and MET. -/
structure Watch.Legal (x : Watch) : Prop where
  off : x.state = .off ↔ x.enabled = false
  output : x.lastOutput.isSome = true ↔ x.state = .clear ∨ x.state = .met

section
variable {x : Watch}

/-- A watch without an evaluation since a reset or a SET WATCH: PRIMING when it is enabled and OFF otherwise. -/
theorem Watch.Legal.unevaluated (state : x.state = watchStateAfterReset x.enabled) (none : x.lastOutput = none) :
    x.Legal := by
  constructor <;> cases enabled : x.enabled <;> simp [state, none, enabled, watchStateAfterReset]

theorem Watch.Legal.evaluate (h : x.Legal) (output : Nat) : (x.evaluate output).1.Legal := by
  rw [Watch.evaluate_watch]
  by_cases off : x.state = .off
  · rwa [if_pos off]
  · rw [if_neg off]
    have on : x.enabled ≠ false := fun disabled => off (h.off.mpr disabled)
    constructor <;> cases x.met output <;> simp [on]

end

/-! ### The trigger unit -/

section
variable {s t : State}

theorem triggersInv_iff : TriggersInv s ↔
    (∀ c, (s.triggers.contacts.get c).Legal) ∧ (∀ c, (s.triggers.clocks.get c).Legal) ∧
      (∀ w, (s.triggers.watches.get w).Legal) ∧
      ∀ i ∈ s.memory.image, ∀ c, (i.contacts.get c).debounce ≤ 250 :=
  ⟨fun h => ⟨fun c => ⟨h.contacts c, h.debounce c⟩, h.clocks, fun w => ⟨h.watches w, h.outputs w⟩, h.image⟩,
    fun ⟨contacts, clocks, watches, image⟩ => ⟨fun c => (contacts c).timer, fun c => (contacts c).debounce, clocks,
      fun w => (watches w).off, fun w => (watches w).output, image⟩⟩

theorem TriggersInv.contact (h : TriggersInv s) (c : Fin 4) : (s.triggers.contacts.get c).Legal :=
  ⟨h.contacts c, h.debounce c⟩

theorem TriggersInv.watch (h : TriggersInv s) (w : Fin 8) : (s.triggers.watches.get w).Legal :=
  ⟨h.watches w, h.outputs w⟩

/-- A write outside the contacts, the clocks, the watches and the show memory. -/
theorem TriggersInv.write (h : TriggersInv s) (contacts : t.triggers.contacts = s.triggers.contacts := by rfl)
    (clocks : t.triggers.clocks = s.triggers.clocks := by rfl)
    (watches : t.triggers.watches = s.triggers.watches := by rfl) (memory : t.memory = s.memory := by rfl) :
    TriggersInv t := by
  rw [triggersInv_iff, contacts, clocks, watches, memory]
  exact triggersInv_iff.mp h

/-- A write outside the trigger unit and the show memory. -/
theorem TriggersInv.of_triggers (h : TriggersInv s) (triggers : t.triggers = s.triggers)
    (memory : t.memory = s.memory) : TriggersInv t :=
  h.write (by rw [triggers]) (by rw [triggers]) (by rw [triggers]) memory

theorem TriggersInv.setContact (h : TriggersInv s) (c : Fin 4) {x : Contact} (legal : x.Legal) :
    TriggersInv (s.setContact c x) := by
  refine triggersInv_iff.mpr ⟨fun k => ?_, h.clocks, h.watch, h.image⟩
  rw [State.setContact_triggers, Table.get_set]
  split
  · exact legal
  · exact h.contact k

theorem TriggersInv.setClock (h : TriggersInv s) (c : Fin 3) {x : CueClock} (legal : x.Legal) :
    TriggersInv (s.setClock c x) := by
  refine triggersInv_iff.mpr ⟨h.contact, fun k => ?_, h.watch, h.image⟩
  rw [State.setClock_triggers, Table.get_set]
  split
  · exact legal
  · exact h.clocks k

theorem TriggersInv.setWatch (h : TriggersInv s) (w : Fin 8) {x : Watch} (legal : x.Legal) :
    TriggersInv (s.setWatch w x) := by
  refine triggersInv_iff.mpr ⟨h.contact, h.clocks, fun k => ?_, h.image⟩
  rw [State.setWatch_triggers, Table.get_set]
  split
  · exact legal
  · exact h.watch k

theorem TriggersInv.withMemory (h : TriggersInv s) {m : ShowMemory}
    (image : ∀ i ∈ m.image, ∀ c, (i.contacts.get c).debounce ≤ 250) : TriggersInv { s with memory := m } :=
  triggersInv_iff.mpr ⟨h.contact, h.clocks, h.watch, image⟩

theorem TriggersInv.tick (h : TriggersInv s) : TriggersInv (advanceMillisecond s) := by
  refine triggersInv_iff.mpr ⟨fun c => ?_, fun c => ?_, h.watch, h.image⟩
  · simp only [advanceMillisecond, Table.get_map]
    exact (h.contact c).tick
  · simp only [advanceMillisecond, Table.get_map]
    exact CueClock.Legal.tick (h.clocks c)

/-! ### The two resets (R148, R172) -/

theorem TriggersInv.handedOver (h : TriggersInv s) (c : Fin 4) :
    (s.memory.handedOver.contacts.get c).debounce ≤ 250 := by
  cases hm : s.memory with
  | valid image => exact h.image image (by simp [hm, ShowMemory.image]) c
  | invalid => simp [ShowMemory.handedOver, Image.factory]
  | storing image since => simp [ShowMemory.handedOver, Image.factory]

theorem TriggersInv.powerOn (h : TriggersInv s) : TriggersInv (powerOn s) := by
  refine triggersInv_iff.mpr ⟨fun c => ?_, fun c => ?_, fun w => ?_, fun i hi => h.image i (image_powerOn hi)⟩
  · simp only [Machine.powerOn, triggersFrom, Table.get_zip]
    exact .stopped (h.handedOver c) rfl rfl
  · simp only [Machine.powerOn, triggersFrom, Table.get_map]
    exact CueClock.legal_of_not_owed rfl
  · simp only [Machine.powerOn, triggersFrom, Table.get_map]
    exact .unevaluated rfl rfl

theorem TriggersInv.restartPart (h : TriggersInv s) (d : Desk) : TriggersInv (restartPart d s) := by
  refine triggersInv_iff.mpr ⟨fun c => ?_, fun c => ?_, fun w => ?_, h.image⟩
  · simp only [Machine.restartPart, Triggers.atRestart, Table.get_map]
    exact (h.contact c).accept
  · simp only [Machine.restartPart, Triggers.atRestart, Table.get_map]
    exact CueClock.legal_of_not_owed rfl
  · simp only [Machine.restartPart, Triggers.atRestart, Table.get_map]
    exact .unevaluated rfl rfl

/-! ### Events (R138, R143, R144) -/

theorem TriggersInv.applyMoved {raise : Event → State → State} (hr : ∀ e s, TriggersInv s → TriggersInv (raise e s))
    (h : TriggersInv s) (p : Fin 6) (m : Moved) : TriggersInv (applyMoved raise p m s) := by
  have set := h.write (t := s.setPlayback p m.playback)
  unfold Machine.applyMoved
  refine raiseAll_keeps hr m.events ?_
  split
  · obtain k | ⟨x, -, k⟩ := goTaken_cases p (s.setPlayback p m.playback) <;> rw [k]
    · exact set
    · exact set.write
  · exact set

theorem TriggersInv.clockTask (h : TriggersInv s) (r : Fin 16) (c : Fin 3) (a : ClockAction) :
    TriggersInv (clockTask r c a s) := by
  unfold Machine.clockTask
  split
  · next acts => exact h.setClock c (CueClock.act_legal acts)
  · exact h.write

theorem TriggersInv.takeTask {raise : Event → State → State} (hr : ∀ e s, TriggersInv s → TriggersInv (raise e s))
    (h : TriggersInv s) (r : Fin 16) (t : Task) : TriggersInv (takeTask raise r t s) := by
  have taken : ∀ {x : State × Result}, TriggersInv x.1 → TriggersInv (taskTaken r x) := by
    intro x k
    unfold taskTaken
    split
    · exact k.write
    · exact k
  have written : ∀ {p : Fin 6} {x : State × Result},
      ((∃ y, x = (s, y)) ∨ ∃ pb y, x = (s.setPlayback p pb, y)) → TriggersInv (taskTaken r x) := by
    rintro p x (⟨y, rfl⟩ | ⟨pb, y, rfl⟩)
    · exact taken h
    · exact taken h.write
  match t with
  | .go p =>
    refine taken ?_
    obtain ⟨x, k⟩ | ⟨m, x, k⟩ := goPlayback_cases raise p s <;> rw [k]
    · exact h
    · exact h.applyMoved hr p m
  | .pause p => exact written (pausePlayback_cases p s)
  | .resume p => exact written (resumePlayback_cases p s)
  | .release p => exact written (releasePlayback_cases p s)
  | .start c => exact h.clockTask r c .start
  | .continue c => exact h.clockTask r c .continue
  | .stop c => exact h.clockTask r c .stop
  | .stopAtMatch c => exact h.clockTask r c .stopAtMatch
  | .blackoutOn | .blackoutOff => exact h.write
  | .swapNow =>
    simp only [Machine.takeTask, swapNow]
    split <;> exact h.write

theorem TriggersInv.raiseEvent (h : TriggersInv s) (e : Event) : TriggersInv (raiseEvent e s) := by
  refine raiseWithin_keeps (fun e s k => k.write) (fun raise hr r s k _ => ?_) _ e s h
  have marked := k.write (t := s.setRoute r { s.triggers.routes.get r with holdoff := true })
  unfold issueTask
  split
  · exact marked.write
  · exact marked.takeTask hr r _

/-! ### Desks, contacts and clocks (R51, R55, R133 to R137) -/

theorem TriggersInv.setMonitor (h : TriggersInv s) (d : Desk) (m : Monitor) : TriggersInv (s.setMonitor d m) :=
  h.of_triggers (by simp) (by simp)

theorem TriggersInv.checkTimeout (h : TriggersInv s) (d : Desk) : TriggersInv (checkTimeout d s) := by
  obtain ⟨-, k⟩ | ⟨-, k⟩ := checkTimeout_cases d s <;> rw [k]
  · exact h
  · exact (h.setMonitor d _).raiseEvent _

theorem TriggersInv.expireFade (h : TriggersInv s) (d : Desk) : TriggersInv (expireFade d s) := by
  obtain ⟨-, k⟩ | ⟨-, k⟩ := expireFade_cases d s <;> rw [k]
  · exact h
  · exact h.setMonitor d _

theorem TriggersInv.levelsArrive (h : TriggersInv s) (d : Desk) (base : Nat) (levels : List Byte) :
    TriggersInv (levelsArrive d base levels s) := by
  unfold Machine.levelsArrive
  simp only
  split
  · exact (h.setMonitor d _).raiseEvent _
  · exact h.setMonitor d _

theorem TriggersInv.acceptContact (h : TriggersInv s) (c : Fin 4) : TriggersInv (acceptContact c s) := by
  have accepted := h.setContact c (h.contact c).accept
  obtain k | k := acceptContact_cases c s <;> rw [k]
  · exact accepted
  · exact accepted.raiseEvent _

theorem TriggersInv.debounceEnd (h : TriggersInv s) (c : Fin 4) : TriggersInv (debounceEnd c s) := by
  unfold Machine.debounceEnd
  split
  · exact h.acceptContact c
  · exact h

theorem TriggersInv.changeContact (h : TriggersInv s) (c : Fin 4) (high : Bool) :
    TriggersInv (changeContact c high s) := by
  by_cases same : high = (s.triggers.contacts.get c).input
  · rwa [same, changeContact_same]
  · by_cases back : high = (s.triggers.contacts.get c).accepted
    · rw [changeContact_back same back]
      exact h.setContact c (.stopped (h.debounce c) rfl back)
    · have starts := h.setContact c (.running (x := { s.triggers.contacts.get c with input := high, timer := some 0 })
        (h.debounce c) rfl back)
      rw [changeContact_away same back]
      simp only
      split
      · exact starts.acceptContact c
      · exact starts

theorem TriggersInv.owedAdvance (h : TriggersInv s) (c : Fin 3) : TriggersInv (owedAdvance c s) := by
  have advanced := h.setClock c (CueClock.advance_legal (s.triggers.clocks.get c))
  unfold Machine.owedAdvance
  split
  · obtain ⟨-, k⟩ | ⟨detail, -, k⟩ := advanceClock_cases c s <;> rw [k]
    · exact advanced
    · exact advanced.raiseEvent _
  · exact h

/-! ### The owners (R135, R138, R139, R141, R171) -/

theorem TriggersInv.ownerSetContact (h : TriggersInv s) (contact edge debounce : Byte) :
    TriggersInv (ownerSetContact contact edge debounce s).state := by
  have set : ∀ c e, TriggersInv (s.setContact c { s.triggers.contacts.get c with
      edge := e, debounce := min debounce.toNat 250, timer := (s.triggers.contacts.get c).timer.map fun _ => 0 }) :=
    fun c e => h.setContact c ((h.contact c).restarted e (Nat.min_le_right ..))
  unfold Machine.ownerSetContact
  split
  · exact h
  · split
    · exact h
    · simp only
      split
      · exact (set _ _).debounceEnd _
      · exact set _ _

theorem TriggersInv.ownerClockAction (h : TriggersInv s) (clock action : Byte) :
    TriggersInv (ownerClockAction clock action s).state := by
  unfold Machine.ownerClockAction
  split
  · exact h
  · split
    · exact h
    · split
      · exact h
      · next acts => exact h.setClock _ (CueClock.act_legal acts)

theorem TriggersInv.ownerSetClock (h : TriggersInv s) (clock mode : Byte) (compare load : Quad) :
    TriggersInv (ownerSetClock clock mode compare load s).state := by
  unfold Machine.ownerSetClock
  split
  · exact h
  · split
    · exact h
    · split
      · exact h
      · exact h.setClock _ (h.clocks _)

theorem TriggersInv.ownerSetWatch (h : TriggersInv s) (watch : Byte) (circuit : Half)
    (condition threshold enabled : Byte) :
    TriggersInv (ownerSetWatch watch circuit condition threshold enabled s).state := by
  unfold Machine.ownerSetWatch
  split
  · exact h
  · split
    · exact h.setWatch _ (.unevaluated rfl rfl)
    · exact h

/-- STORE takes the debounce times into its image as they stand (R170). -/
theorem TriggersInv.ownerStore (h : TriggersInv s) : TriggersInv (ownerStore s).state :=
  h.withMemory fun i hi c => by
    cases hi
    simp only [imageOf, Table.get_map]
    exact h.debounce c

theorem TriggersInv.perform (h : TriggersInv s) (r : Request) : TriggersInv (perform r s).state := by
  have request : ∀ {n : Byte} {take : Fin 6 → State × Result}, (∀ p, TriggersInv (take p).1) →
      TriggersInv (playbackRequest n s take).state := by
    intro n take k
    unfold playbackRequest
    split
    · exact h
    · exact k _
  have moved : ∀ {p : Fin 6} {x : State × Result},
      ((∃ y, x = (s, y)) ∨ ∃ m y, x = (Machine.applyMoved Machine.raiseEvent p m s, y)) → TriggersInv x.1 := by
    rintro p x (⟨y, rfl⟩ | ⟨m, y, rfl⟩)
    · exact h
    · exact h.applyMoved (fun e _ k => k.raiseEvent e) p m
  cases r with
  | go p => exact request fun p => moved (goPlayback_cases _ p s)
  | goto p cue ovr => exact request fun p => moved (gotoPlayback_cases _ p cue ovr s)
  | back p => exact request fun p => moved (backPlayback_cases _ p s)
  | setContact => exact h.ownerSetContact ..
  | clockAction => exact h.ownerClockAction ..
  | setClock => exact h.ownerSetClock ..
  | setWatch => exact h.ownerSetWatch ..
  | store => exact h.ownerStore
  | setDesk d t act fade mrg rts =>
    simp only [Machine.perform, ownerSetDesk]
    (repeat' split) <;> first | exact h | exact (h.setMonitor _ _).checkTimeout _
  | readDesk d c =>
    simp only [Machine.perform, ownerReadDesk]
    (repeat' split) <;> first | exact h | exact h.of_triggers (by simp) (by simp)
  | _ =>
    simp only [Machine.perform, playbackRequest, pausePlayback, resumePlayback, releasePlayback, loadListPlayback,
      unloadPlayback, setMasterPlayback, ownerSetRate, setTimesPlayback, ownerWriteCue, writeCheckedCue,
      ownerDeleteCue, ownerClearList, ownerSetCircuit, ownerCopyBank, ownerClearBank, ownerSelectBank,
      ownerCancelSwap, ownerLoadLaw, ownerPark, ownerUnpark, ownerUnparkAll, ownerSetGrandMaster, ownerBlackout,
      ownerSetScan, ownerSetLink, ownerSetRoute, ownerTakeReports, ownerSetReportMask, ownerClearFlags,
      ownerReadStatus, ownerReadPlayback, ownerReadChannel, ownerReadCircuit, ownerReadCue, ownerReadBankEntry,
      ownerReadLaw, ownerReadTriggers, refuse]
    (repeat' split) <;> exact h.write

theorem TriggersInv.keptByCommands : KeptByCommands TriggersInv where
  port _ _ _ h := h.of_triggers (by simp) (by simp)
  processor _ _ h := h.write
  held _ _ h := h.write
  owner r _ h := h.perform r

/-! ### Compute end, replies and the show memory (R78 to R83, R140) -/

theorem TriggersInv.postSets (h : TriggersInv s) : TriggersInv (postSets s) := by
  obtain ⟨order, -, posted⟩ := postSets_eq s
  rw [posted]
  exact foldl_keeps (P := TriggersInv) (fun _ _ k => k.write) order h.write

theorem TriggersInv.swapDone (h : TriggersInv s) : TriggersInv (swapDone s) := by
  unfold Machine.swapDone
  split
  · next before _ =>
    have raised := h.raiseEvent ⟨.swapDone, numbered s.level.activeBank, numbered before⟩
    generalize Machine.raiseEvent _ s = u at raised ⊢
    exact raised.write
  · exact h

theorem TriggersInv.scanWorkEvents (h : TriggersInv s) : TriggersInv (scanWorkEvents s) :=
  raiseAll_keeps (fun e _ k => k.raiseEvent e) _ h.write

theorem TriggersInv.evaluateWatch (h : TriggersInv s) (w : Fin 8) : TriggersInv (evaluateWatch s w) := by
  have evaluated := fun output => h.setWatch w ((h.watch w).evaluate output)
  unfold Machine.evaluateWatch
  simp only
  split
  · exact (evaluated _).raiseEvent _
  · exact evaluated _

theorem TriggersInv.computeEnd (h : TriggersInv s) : TriggersInv (computeEnd s) := by
  refine computeEnd_keeps (fun u k => TriggersInv.postSets k.write) (fun x rest u k => ?_) (fun u k => ?_)
    (fun _ k => k.swapDone) (fun _ k => k.scanWorkEvents) (fun _ w k => k.evaluateWatch w) (fun _ k => k.write)
    (fun _ k => keptByCommands.arbitrate k) h
  · exact keptByCommands.takeHeld (fun r t _ kv => kv.takeTask (fun e _ k => k.raiseEvent e) r t) x k.write
  · rw [darkTest_eq]
    exact k.write

theorem TriggersInv.replyDone (h : TriggersInv s) (d : Desk) : TriggersInv (replyDone d s) := by
  have sent : ∀ rest, TriggersInv (s.setReplies d rest) := fun _ => h.of_triggers (by simp) (by simp)
  unfold Machine.replyDone
  split
  · exact h
  · simp only
    split
    · exact sent _
    · exact sent _
    · exact h.of_triggers (by simp) (by simp)
    · exact (sent _).restartPart d

theorem TriggersInv.restartMoment (h : TriggersInv s) : TriggersInv (restartMoment s) := by
  unfold Machine.restartMoment
  split
  · exact h.restartPart _
  · exact h

theorem TriggersInv.storeCompleted (h : TriggersInv s) : TriggersInv (storeCompleted s) := by
  unfold Machine.storeCompleted
  split
  · next image since hm =>
    have valid := h.withMemory (m := .valid image) fun i hi => h.image i (by rw [hm]; exact hi)
    exact valid.raiseEvent _
  · exact h
  · exact h

theorem TriggersInv.storeFaulted (h : TriggersInv s) : TriggersInv (storeFaulted s) := by
  unfold Machine.storeFaulted
  split
  · exact (h.withMemory (m := .invalid) nofun).raiseEvent _
  · exact h
  · exact h

/-- Every occurrence keeps the contacts, the clocks and the watches legal. -/
theorem TriggersInv.keptByOccurrences : KeptByOccurrences TriggersInv where
  queue _ _ h := h.write
  choice _ _ h := h.write
  power _ h := h.powerOn
  millisecond _ h := h.tick
  receiver _ _ _ h := h.of_triggers (by simp) (by simp)
  levels d base levels _ h := h.levelsArrive d base levels
  command d c _ h := keptByCommands.commandArrives d c h
  timeout d _ h := h.checkTimeout d
  lossFade d _ h := h.expireFade d
  reply d _ h := h.replyDone d
  restart _ h := h.restartMoment
  scan s _ _ h := by
    rw [scanStart_eq]
    exact h.write
  compute _ _ h := h.computeEnd
  frame _ _ h := h.write
  refresh _ _ h := h.write
  input c high _ h := h.changeContact c high
  debounce c _ h := h.debounceEnd c
  clock c _ h := h.owedAdvance c
  stored _ h := h.storeCompleted
  faulted _ h := h.storeFaulted

end

/-- Settles O60: each operation of a contact, a clock and a watch keeps it legal, and every step is made of
occurrences. -/
theorem stepKeepsTheTriggerUnit : Obligations.StepKeepsTheTriggerUnit :=
  fun _ _ h step => step_keeps TriggersInv.keptByOccurrences h step

end Sys2Proof.Machine
end

section
/-! PROOFS. O2, O4 and O8: the layouts of the requests read back, the four checks in their order, and a REPLY frame
sent (R149, R150, R152 to R155, R178, R179). -/

namespace Sys2Proof.Machine

/-! ### O2: the layouts of R179, read back -/

/-- The four bytes of a four-byte field are those that it was read from (R176). -/
theorem quadBytes_quad (b3 b2 b1 b0 : Byte) : quadBytes (quad b3 b2 b1 b0) = [b3, b2, b1, b0] := by
  have high : ∀ (x y : Half) (k : Nat), (x ++ y).extractLsb' (16 + k) 8 = x.extractLsb' k 8 := by
    intro x y k
    ext i _
    simp only [BitVec.getElem_extractLsb', BitVec.getLsbD_append]
    rw [if_neg (by omega)]
    congr 1
    omega
  have low : ∀ (x y : Half) (k : Nat), k ≤ 8 → (x ++ y).extractLsb' k 8 = y.extractLsb' k 8 := by
    intro x y k _
    ext i _
    simp only [BitVec.getElem_extractLsb', BitVec.getLsbD_append]
    rw [if_pos (by omega)]
  have bytes : ∀ x y : Half, quadBytes (x ++ y) = halfBytes x ++ halfBytes y := fun x y => by
    simp only [quadBytes, halfBytes, List.cons_append, List.nil_append, high x y 8, high x y 0, low x y 8 le_rfl,
      low x y 0 (Nat.zero_le 8)]
  have halves : quad b3 b2 b1 b0 = half b3 b2 ++ half b1 b0 := rfl
  rw [halves, bytes, halfBytes_half, halfBytes_half]
  rfl

/-- What a layout reads is a request that fits it, with its own code and its own parameters (R154, R179). -/
theorem layout_eq_some {code : Nat} {params : List Byte} {r : Request} (h : layout code params = some r) :
    r.fits = true ∧ code = r.code.toNat ∧ params = r.params := by
  unfold layout at h
  split at h
  case h_20 =>
    split at h
    · split at h
      · rename_i lengths
        cases h
        exact ⟨by simpa [Request.fits] using lengths, rfl, rfl⟩
      · cases h
    · cases h
  case h_48 => cases h
  all_goals
    split at h
    · cases h
      refine ⟨rfl, rfl, ?_⟩
      simp only [Request.params, halfBytes_half, quadBytes_quad, List.cons_append, List.nil_append]
    · cases h

theorem parse_eq_request {code : Byte} {params : List Byte} {r : Request} (h : parse code params = .request r) :
    layout code.toNat params = some r := by
  unfold parse at h
  split at h
  · split at h
    · cases h
      assumption
    · cases h
  · cases h

/-- Settles O2: each layout reads back what its request carries, and what it reads is such a request. -/
theorem parseReadsExactlyTheRequestLayouts : Obligations.ParseReadsExactlyTheRequestLayouts := by
  intro code params r
  constructor
  · intro read
    obtain ⟨fits, sameCode, sameParams⟩ := layout_eq_some (parse_eq_request read)
    exact ⟨fits, BitVec.eq_of_toNat_eq sameCode, sameParams⟩
  · rintro ⟨fits, rfl, rfl⟩
    exact parse_code_params fits

/-! ### O4: the four checks in their order (R152) -/

section
variable {d : Desk} {c : Command} {s : State}

theorem checkCommand_notPermitted (h : s.permits d c.code = false) :
    checkCommand d c s = .error .notPermitted := by
  simp [checkCommand, h]

/-- Checks 2 and 3 of R152 have one outcome. -/
theorem checkCommand_unread (permitted : s.permits d c.code = true)
    (h : parse c.code c.params = .unknownCode ∨ parse c.code c.params = .badLength) :
    checkCommand d c s = .error .badRequest := by
  obtain h | h := h <;> simp [checkCommand, permitted, h]

theorem checkCommand_storing {r : Request} (permitted : s.permits d c.code = true)
    (h : parse c.code c.params = .request r) (stored : r.changesStored = true)
    (storing : s.memory.isStoring = true) : checkCommand d c s = .error .busy := by
  simp [checkCommand, permitted, h, stored, storing]

/-- A command of a free desk that a check refuses is answered with that outcome, and nothing else happens. -/
theorem commandArrives_refused {why : Result} (free : Free d s)
    (check : checkCommand d c (begunAs d c s) = .error why) :
    commandArrives d c s = answeredAs d c why [] (begunAs d c s) := by
  have arrived : takeCommand d c (s.setBuffer d (.waiting c)) = answer d c (refuse (begunAs d c s) why) := by
    simp only [takeCommand, beginCommand_arrival, check]
  have alone : ((begunAs d c s).desk d.other).port.buffer.waitingCommand = none := by
    rw [begunAs_other]
    exact free.alone
  unfold commandArrives
  simp only [free.buffer]
  rw [arbitrate_one (nextCommand_arrival free) (by rw [arrived]; exact nextCommand_answer rfl alone), arrived,
    answer_eq_answeredAs (by rfl)]
  simp only [refuse, replyData_nil]

end

theorem checksDecideInOrder : Clause.ChecksDecideInOrder := by
  intro d tag code params s free hunt short c frame refused
  have refuses : ∀ why, checkCommand d c (begunAs d c s) = .error why → exec frame s = refused why := by
    intro why check
    have received : s.setReceiver d { (s.desk d).receiver with state := .hunt } = s :=
      State.setReceiver_of_eq (by rw [← hunt])
    rw [exec_commandFrame (.inl hunt) short, received, commandArrives_refused free check]
  refine ⟨fun h => ?_, fun h unknown => ?_, fun h known unlaid => ?_, fun h r read stored storing => ?_⟩
  · exact refuses _ (checkCommand_notPermitted (by rwa [begunAs_permits]))
  · exact refuses _ (checkCommand_unread (by rwa [begunAs_permits])
      (.inl (by simp only [parse, c, unknown, if_false])))
  · exact refuses _ (checkCommand_unread (by rwa [begunAs_permits])
      (.inr (by simp only [parse, c, known, if_true, unlaid])))
  · exact refuses _ (checkCommand_storing (by rwa [begunAs_permits]) read stored (by rwa [begunAs_memory]))

/-! ### O4: the tables of rights and of stores (R153, R155) -/

/-- The codes of the playback class are those of the playback actions and live settings, and of every read
(R153). -/
theorem code_mem_playbackClass (r : Request) : decide (r.code.toNat ∈ playbackClass) =
    match r with
    | .go .. | .goto .. | .back .. | .pause .. | .resume .. | .release .. | .setMaster ..
    | .setRate .. | .setGrandMaster .. | .blackout .. | .takeReports .. => true
    | _ => r.isRead := by
  cases r <;> rfl

theorem code_eq_readStatus (r : Request) : r.code.toNat = 128 ↔ r = .readStatus := by
  cases r with
  | readStatus => exact iff_of_true rfl rfl
  | _ => exact iff_of_false (by simp [Request.code]) nofun

theorem rightsAllowTheirClass : Clause.RightsAllowTheirClass := by
  refine fun s r => ⟨rfl, fun full => ?_, fun playback => ?_, fun none => ?_⟩
  · simp only [State.permits, full]
  · simp only [State.permits, playback, code_mem_playbackClass]
    cases r <;> simp
  · simp only [State.permits, none, decide_eq_true_eq, code_eq_readStatus]

/-- Settles O4. The table of R155 is the model's own, read request by request. -/
theorem checksAndRightsDecideInOrder : Obligations.ChecksAndRightsDecideInOrder :=
  ⟨checksDecideInOrder, rightsAllowTheirClass, fun r => by cases r <;> rfl⟩

/-! ### O8: a REPLY frame sent (R149, R150) -/

section
variable {d : Desk} {s : State} {r : Reply} {rest : List Reply}

/-- A reply that is not that of the buffer's command leaves its list alone. -/
theorem replyDone_notOwn (h : (s.desk d).port.replies = r :: rest) (k : r.kind = .busy ∨ r.kind = .orphan) :
    replyDone d s = s.setPort d ⟨(s.desk d).port.buffer, rest⟩ := by
  obtain k | k := k <;> simp only [replyDone, h, k, State.setReplies]

/-- The final reply leaves its list and empties the buffer. -/
theorem replyDone_final (h : (s.desk d).port.replies = r :: rest) (k : r.kind = .final) :
    replyDone d s = s.setPort d ⟨.empty, rest⟩ := by
  simp only [replyDone, h, k]
  cases d <;> rfl

end

/-- Settles O8, by the kind of the reply sent. -/
theorem replySentEmptiesItsBuffer : Obligations.ReplySentEmptiesItsBuffer := by
  refine fun d s => ⟨fun empty => ?_, fun r rest h => ⟨fun notOwn => ?_, fun final => ?_⟩⟩
  · simp only [exec, execReplySent, replyDone, empty]
  · simp only [exec, execReplySent, replyDone_notOwn h notOwn]
  · simp only [exec, execReplySent, replyDone_final h final]

end Sys2Proof.Machine
end

section
/-! PROOFS. O57: every step keeps the command buffers, the reply lists and the processor in agreement. Said for one
port, then for both with the processor's dealings as parameters: while a command is carried out its buffer is TAKEN
and it is not in the held-request list, and before the arbiter's turn a command may be WAITING (R149 to R151,
R159). -/

namespace Sys2Proof.Machine

/-! ### One port (R149, R150) -/

/-- One desk's buffer and reply list: `restarting` is whether the list holds the reply of a RESTART, `taken`
whether the buffer is TAKEN. -/
structure Port.InOrder (restarting taken : Prop) (p : Port) : Prop where
  busy : busyReplies p.replies ≤ 3
  own : p.replies.countP Reply.isOwn = if p.buffer.isAnswering then 1 else 0
  restart : (∃ r ∈ p.replies, r.kind = .restart) ↔ restarting
  taken : (∃ c, p.buffer = .taken c) ↔ taken

section
variable {restarting taken : Prop} {p : Port}

/-- A command enters the EMPTY buffer. -/
theorem Port.InOrder.arrive (h : p.InOrder restarting taken) (empty : p.buffer = .empty) (c : Command) :
    Port.InOrder restarting taken ⟨.waiting c, p.replies⟩ where
  busy := h.busy
  own := by simpa [empty, Buffer.isAnswering] using h.own
  restart := h.restart
  taken := by simpa [empty] using h.taken

/-- The processor takes the command of a WAITING buffer. -/
theorem Port.InOrder.take (h : p.InOrder restarting taken) {c : Command} (waiting : p.buffer = .waiting c) :
    Port.InOrder restarting True ⟨.taken c, p.replies⟩ where
  busy := h.busy
  own := by simpa [waiting, Buffer.isAnswering] using h.own
  restart := h.restart
  taken := by simp

/-- The command of a TAKEN buffer is answered by a reply of its own. -/
theorem Port.InOrder.answer (h : p.InOrder False True) (c : Command) {r : Reply} (own : r.isOwn = true) :
    Port.InOrder (r.kind = .restart) False ⟨.answering c, p.replies ++ [r]⟩ where
  busy := by
    have notBusy : r.kind ≠ .busy := fun k => by simp [Reply.isOwn, k] at own
    simpa [busyReplies, List.countP_append, notBusy] using h.busy
  own := by
    obtain ⟨_, taken⟩ := h.taken.mpr trivial
    have none : p.replies.countP Reply.isOwn = 0 := by simpa [taken, Buffer.isAnswering] using h.own
    simp [List.countP_append, none, own, Buffer.isAnswering]
  restart := by
    have none : ∀ x ∈ p.replies, x.kind ≠ .restart := by simpa using h.restart
    constructor
    · rintro ⟨x, hx, k⟩
      obtain hx | hx := List.mem_append.mp hx
      · exact absurd k (none x hx)
      · rwa [List.mem_singleton.mp hx] at k
    · exact fun k => ⟨r, by simp, k⟩
  taken := by simp

/-- A second command is answered BUSY, when that is not a fourth (R150). -/
theorem Port.InOrder.answerBusy (h : p.InOrder restarting taken) (room : busyReplies p.replies < 3) {r : Reply}
    (k : r.kind = .busy) : Port.InOrder restarting taken ⟨p.buffer, p.replies ++ [r]⟩ where
  busy := by
    have one : busyReplies [r] = 1 := by simp [busyReplies, k]
    have sum : busyReplies (p.replies ++ [r]) = busyReplies p.replies + busyReplies [r] := List.countP_append
    simp only [sum, one]
    omega
  own := by simpa [List.countP_append, Reply.isOwn, k] using h.own
  restart := by simpa [or_and_right, exists_or, k] using h.restart
  taken := h.taken

section
variable {r : Reply} {rest : List Reply}

theorem Port.InOrder.busy_rest (h : p.InOrder restarting taken) (head : p.replies = r :: rest) :
    busyReplies rest ≤ 3 := by
  have list := h.busy
  rw [head] at list
  exact (List.sublist_cons_self r rest).countP_le.trans list

/-- A reply that is not the command's own leaves the list. -/
theorem Port.InOrder.sent (h : p.InOrder restarting taken) (head : p.replies = r :: rest)
    (k : r.kind = .busy ∨ r.kind = .orphan) : Port.InOrder restarting taken ⟨p.buffer, rest⟩ where
  busy := h.busy_rest head
  own := by
    have notOwn : r.isOwn = false := by obtain k | k := k <;> simp [Reply.isOwn, k]
    simpa [head, notOwn] using h.own
  restart := by
    have notRestart : r.kind ≠ .restart := by obtain k | k := k <;> simp [k]
    simpa [head, notRestart] using h.restart
  taken := h.taken

/-- A buffer whose own final reply is in its list is ANSWERING, and no other reply there is its own. -/
theorem Port.InOrder.final (h : p.InOrder restarting taken) (head : p.replies = r :: rest) (k : r.kind = .final) :
    p.buffer.isAnswering = true ∧ rest.countP Reply.isOwn = 0 := by
  have count := h.own
  rw [head, List.countP_cons_of_pos (by simp [Reply.isOwn, k])] at count
  split at count
  · exact ⟨by assumption, by omega⟩
  · omega

/-- The final reply leaves the list, and its buffer is EMPTY. -/
theorem Port.InOrder.finalSent (h : p.InOrder restarting taken) (head : p.replies = r :: rest)
    (k : r.kind = .final) : Port.InOrder restarting taken ⟨.empty, rest⟩ where
  busy := h.busy_rest head
  own := (h.final head k).2
  restart := by simpa [head, k] using h.restart
  taken := by
    have answering := (h.final head k).1
    have notTaken : ¬∃ c, p.buffer = .taken c := by
      rintro ⟨c, hc⟩
      rw [hc] at answering
      cases answering
    exact iff_of_false nofun (h.taken.not.mp notTaken)

end

/-- After a restart only the frame on the line is left, and it is no command's own (R162). -/
theorem Port.inOrder_atRestart {rs : List Reply} (h : ∀ r ∈ rs, r.kind ≠ .restart) :
    Port.InOrder False False ⟨.empty, repliesAtRestart rs⟩ := by
  cases rs with
  | nil => exact ⟨Nat.zero_le _, rfl, by simp [repliesAtRestart], by simp⟩
  | cons r rest =>
    obtain ⟨x, list, k⟩ : ∃ x, repliesAtRestart (r :: rest) = [x] ∧ (x.kind = .busy ∨ x.kind = .orphan) := by
      refine ⟨_, rfl, ?_⟩
      have notRestart := h r List.mem_cons_self
      cases kind : r.kind <;> simp_all
    rw [list]
    refine ⟨List.countP_le_length.trans (by simp), ?_, ?_, by simp⟩
    · obtain k | k := k <;> simp [Reply.isOwn, k, Buffer.isAnswering]
    · obtain k | k := k <;> simp [k]

end

/-! ### Both ports and the held-request list (R77, R149 to R151) -/

/-- The desks whose commands wait in a held-request list. -/
def heldDesks (held : List Held) : List Desk :=
  held.filterMap fun h => match h with
    | .command d _ _ => some d
    | .task .. => none

theorem heldCommands_eq_length (held : List Held) : heldCommands held = (heldDesks held).length := by
  induction held with
  | nil => rfl
  | cons x rest ih =>
    unfold heldCommands heldDesks at ih ⊢
    cases x <;> simp [ih]

theorem mem_heldDesks {held : List Held} {d : Desk} :
    d ∈ heldDesks held ↔ ∃ c r, Held.command d c r ∈ held := by
  unfold heldDesks
  rw [List.mem_filterMap]
  constructor
  · rintro ⟨x, hx, desk⟩
    cases x with
    | command y c r =>
      cases desk
      exact ⟨c, r, hx⟩
    | task r t => cases desk
  · rintro ⟨c, r, hx⟩
    exact ⟨_, hx, rfl⟩

/-- A list of at most one desk, said by its member. -/
theorem eq_toList_iff {ds : List Desk} {x : Option Desk} :
    ds = x.toList ↔ ds.length ≤ 1 ∧ ∀ d, x = some d ↔ d ∈ ds := by
  constructor
  · rintro rfl
    cases x <;> simp [eq_comm]
  · rintro ⟨one, same⟩
    match ds with
    | [] =>
      cases x with
      | none => rfl
      | some d => exact absurd ((same d).mp rfl) List.not_mem_nil
    | [d] =>
      rw [(same d).mpr (List.mem_singleton_self d)]
      rfl
    | _ :: _ :: _ =>
      simp only [List.length_cons] at one
      omega

/-- Both ports are in order and the held-request list holds the command of one desk or of none: with the desk whose
RESTART is answered, the desk whose buffer is TAKEN, and the desk whose command is held. -/
structure PortsAs (restarting taken held : Option Desk) (s : State) : Prop where
  port : ∀ d, (s.desk d).port.InOrder (restarting = some d) (taken = some d)
  held : heldDesks s.level.held = held.toList

/-- The desk whose RESTART an EXECUTING processor has answered; outside a command's own execution it has no other
(R159). -/
def ProcessorState.executingFor : ProcessorState → Option Desk
  | .executing d => some d
  | .idle | .holding _ => none

/-- The desk whose command a HOLDING processor keeps (R151). -/
def ProcessorState.holdingFor : ProcessorState → Option Desk
  | .holding d => some d
  | .idle | .executing _ => none

theorem ProcessorState.executingFor_eq_some {p : ProcessorState} {d : Desk} :
    p.executingFor = some d ↔ p = .executing d := by
  cases p <;> simp [ProcessorState.executingFor]

theorem ProcessorState.holdingFor_eq_some {p : ProcessorState} {d : Desk} :
    p.holdingFor = some d ↔ p = .holding d := by
  cases p <;> simp [ProcessorState.holdingFor]

/-- The invariant but for a command that waits for the arbiter's turn at an IDLE processor. -/
def PortsOpen (s : State) : Prop :=
  PortsAs s.processor.state.executingFor s.processor.state.holdingFor s.processor.state.holdingFor s

section
variable {d : Desk} {s : State}

theorem portsOpen_idle (h : s.processor.state = .idle) : PortsOpen s ↔ PortsAs none none none s := by
  rw [PortsOpen, h]
  rfl

theorem portsOpen_executing (h : s.processor.state = .executing d) :
    PortsOpen s ↔ PortsAs (some d) none none s := by
  rw [PortsOpen, h]
  rfl

theorem portsOpen_holding (h : s.processor.state = .holding d) :
    PortsOpen s ↔ PortsAs none (some d) (some d) s := by
  rw [PortsOpen, h]
  rfl

end

/-- The invariant is that no command waits for the arbiter's turn. -/
theorem portsInv_iff {s : State} : PortsInv s ↔
    PortsOpen s ∧ ∀ d, s.processor.state = .idle → (s.desk d).port.buffer.waitingCommand = none := by
  constructor
  · intro h
    refine ⟨⟨fun d => ?_, ?_⟩, fun d => (h.desks d).waiting⟩
    · rw [ProcessorState.executingFor_eq_some, ProcessorState.holdingFor_eq_some]
      exact ⟨(h.desks d).busy, (h.desks d).own, (h.desks d).restart, (h.desks d).taken⟩
    · refine eq_toList_iff.mpr ⟨?_, fun d => ?_⟩
      · rw [← heldCommands_eq_length]
        exact h.one
      · rw [mem_heldDesks, ProcessorState.holdingFor_eq_some]
        exact h.held d
  · rintro ⟨⟨port, held⟩, waiting⟩
    obtain ⟨one, same⟩ := eq_toList_iff.mp held
    refine ⟨fun d => ?_, ?_, fun d => ?_⟩
    · obtain ⟨busy, own, restart, taken⟩ := port d
      rw [ProcessorState.executingFor_eq_some] at restart
      rw [ProcessorState.holdingFor_eq_some] at taken
      exact ⟨busy, own, restart, taken, waiting d⟩
    · rwa [heldCommands_eq_length]
    · rw [← mem_heldDesks, ← ProcessorState.holdingFor_eq_some]
      exact same d

theorem Desk.ne_other (d : Desk) : d ≠ d.other := by
  cases d <;> decide

section
variable {restarting taken held restarting' taken' held' : Option Desk} {s t : State}

/-- One desk's port is written, and what is said of the other desk does not change. -/
theorem PortsAs.write (h : PortsAs restarting taken held s) {d : Desk}
    (own : ((t.desk d).port).InOrder (restarting' = some d) (taken' = some d))
    (other : (t.desk d.other).port = (s.desk d.other).port)
    (list : heldDesks t.level.held = held'.toList)
    (sameRestart : restarting' = some d.other ↔ restarting = some d.other)
    (sameTaken : taken' = some d.other ↔ taken = some d.other) : PortsAs restarting' taken' held' t where
  port x := by
    by_cases hx : x = d
    · rw [hx]
      exact own
    · rw [Desk.eq_other_of_ne hx, other, sameRestart, sameTaken]
      exact h.port d.other
  held := list

/-- The ports and the commands in the held-request list are the same. -/
structure SameDialogue (s t : State) : Prop extends SamePorts s t where
  held : heldDesks t.level.held = heldDesks s.level.held

theorem PortsAs.same (h : PortsAs restarting taken held s) (k : SameDialogue s t) :
    PortsAs restarting taken held t where
  port d := by
    rw [k.ports]
    exact h.port d
  held := k.held.trans h.held

theorem PortsOpen.same (h : PortsOpen s) (k : SameDialogue s t) : PortsOpen t := by
  unfold PortsOpen
  rw [k.processor]
  exact PortsAs.same h k

theorem PortsInv.same (h : PortsInv s) (k : SameDialogue s t) : PortsInv t := by
  obtain ⟨opened, waiting⟩ := portsInv_iff.mp h
  refine portsInv_iff.mpr ⟨opened.same k, fun d idle => ?_⟩
  rw [k.ports]
  exact waiting d (k.processor ▸ idle)

end

/-! ### What leaves ports and held commands as they are -/

theorem SameDialogue.rfl (s : State) : SameDialogue s s := ⟨.rfl s, .refl _⟩

theorem SameDialogue.trans {s t u : State} (h : SameDialogue s t) (k : SameDialogue t u) : SameDialogue s u :=
  ⟨h.toSamePorts.trans k.toSamePorts, k.held.trans h.held⟩

/-- A write of other fields. -/
theorem SameDialogue.write {s t : State} (a : t.deskA = s.deskA := by rfl) (b : t.deskB = s.deskB := by rfl)
    (processor : t.processor = s.processor := by rfl) (held : t.level.held = s.level.held := by rfl) :
    SameDialogue s t :=
  ⟨.of_desks a b processor, congrArg heldDesks held⟩

/-- An event adds no command to the held-request list, but at most tasks (R76, R144). -/
theorem keptByHolding_heldDesks (ds : List Desk) : KeptByHolding fun t => heldDesks t.level.held = ds where
  same k h := (congrArg heldDesks k.held).trans h
  hold r t h _ _ := by simpa [heldDesks] using h

theorem SameDialogue.raised {s t : State} (ports : SamePorts s t)
    (k : WroteThenRaised raiseEvent (SameHeld s) t) : SameDialogue s t :=
  ⟨ports, (keptByHolding_heldDesks _).raised (.refl _) k⟩

theorem SamePorts.raiseEvent {s t : State} (h : SamePorts s t) (e : Event) : SamePorts s (raiseEvent e t) :=
  h.trans (SameButEvents.raiseEvent e t).samePorts

theorem SameDialogue.raiseEvent {s t : State} (h : SameDialogue s t) (e : Event) :
    SameDialogue s (raiseEvent e t) :=
  ⟨h.toSamePorts.raiseEvent e, (keptByHolding_heldDesks _).event e t h.held⟩

theorem SameDialogue.perform (r : Request) (s : State) : SameDialogue s (perform r s).state :=
  .raised (perform_samePorts r s) (perform_sameHeld r s)

theorem SameDialogue.takeTask (r : Fin 16) (t : Task) (s : State) :
    SameDialogue s (takeTask Machine.raiseEvent r t s) :=
  have keeps := keptByHolding_heldDesks (heldDesks s.level.held)
  ⟨(SameButEvents.takeTask (fun e u => .raiseEvent e u) r t s).samePorts, keeps.task keeps.event r t (.refl _)⟩

theorem SameDialogue.setMonitor (s : State) (d : Desk) (m : Monitor) : SameDialogue s (s.setMonitor d m) :=
  ⟨.setMonitor s d m, by simp⟩

theorem SameDialogue.setReceiver (s : State) (d : Desk) (r : Receiver) : SameDialogue s (s.setReceiver d r) :=
  ⟨.setReceiver s d r, by simp⟩

theorem SameDialogue.levelsArrive (d : Desk) (base : Nat) (levels : List Byte) (s : State) :
    SameDialogue s (levelsArrive d base levels s) := by
  unfold Machine.levelsArrive
  simp only
  split
  · exact (SameDialogue.setMonitor s d _).raiseEvent _
  · exact .setMonitor s d _

theorem SameDialogue.expireFade (d : Desk) (s : State) : SameDialogue s (expireFade d s) := by
  obtain ⟨-, h⟩ | ⟨-, h⟩ := expireFade_cases d s <;> rw [h]
  · exact .rfl s
  · exact .setMonitor s d _

theorem SameDialogue.acceptContact (c : Fin 4) (s : State) : SameDialogue s (acceptContact c s) :=
  .raised (.acceptContact c s) (acceptContact_sameHeld c s)

theorem SameDialogue.changeContact (c : Fin 4) (high : Bool) (s : State) :
    SameDialogue s (changeContact c high s) := by
  have set : ∀ x, SameDialogue s (s.setContact c x) := fun _ => .write
  unfold Machine.changeContact
  simp only
  split
  · exact .rfl s
  · split
    · exact set _
    · split
      · exact (set _).trans (.acceptContact c _)
      · exact set _

theorem SameDialogue.owedAdvance (c : Fin 3) (s : State) : SameDialogue s (owedAdvance c s) := by
  have set : ∀ x, SameDialogue s (s.setClock c x) := fun _ => .write
  unfold Machine.owedAdvance
  split
  · obtain ⟨-, h⟩ | ⟨detail, -, h⟩ := advanceClock_cases c s <;> rw [h]
    · exact set _
    · exact (set _).raiseEvent _
  · exact .rfl s

theorem SameDialogue.storeCompleted (s : State) : SameDialogue s (storeCompleted s) := by
  have stored : ∀ m, SameDialogue s { s with memory := m } := fun _ => .write
  unfold Machine.storeCompleted
  split
  · exact (stored _).raiseEvent _
  · exact .rfl s
  · exact .rfl s

theorem SameDialogue.storeFaulted (s : State) : SameDialogue s (storeFaulted s) := by
  have stored : ∀ m, SameDialogue s { s with memory := m } := fun _ => .write
  unfold Machine.storeFaulted
  split
  · exact (stored _).raiseEvent _
  · exact .rfl s
  · exact .rfl s

theorem SameDialogue.postSets (s : State) : SameDialogue s (postSets s) := by
  obtain ⟨choices, skipped⟩ := postSets_posted s
  have posted : SameDialogue s (s.posted choices) := .write
  exact ⟨posted.toSamePorts.trans skipped.samePorts, congrArg heldDesks (postSets_sameHeld s).held⟩

theorem SameDialogue.darkTest (s : State) : SameDialogue s (darkTest s) := by
  rw [darkTest_eq]
  exact .write

theorem SameDialogue.swapDone (s : State) : SameDialogue s (swapDone s) := by
  refine ⟨?_, (keptByHolding_heldDesks _).swapDone (.refl _)⟩
  obtain ⟨u, event, h⟩ := swapDone_cases s
  rw [h]
  exact event.samePorts.trans (.of_desks (.refl _) (.refl _) (.refl _))

theorem SameDialogue.scanWorkEvents (s : State) : SameDialogue s (scanWorkEvents s) := by
  have cleared : ∀ t, SamePorts s { s with playbacks := t } := fun _ => .of_desks (.refl _) (.refl _) (.refl _)
  exact ⟨(cleared _).trans (SameButEvents.raiseAll _ _).samePorts,
    (keptByHolding_heldDesks _).scanWorkEvents (.refl _)⟩

theorem SameDialogue.evaluateWatches (s : State) : SameDialogue s (evaluateWatches s) := by
  refine foldl_keeps (P := SameDialogue s) (fun u w h => h.trans ?_) _ (.rfl s)
  have set : ∀ x, SamePorts u (u.setWatch w x) := fun _ => .of_desks (.refl _) (.refl _) (.refl _)
  exact ⟨(set _).trans (evaluateWatch_event u w).samePorts, (keptByHolding_heldDesks _).evaluateWatch w (.refl _)⟩

/-- Compute end from the dark test to the record (R80 to R83). -/
theorem SameDialogue.afterHeld (s : State) :
    SameDialogue s (writeRecord (Machine.evaluateWatches (Machine.scanWorkEvents (Machine.swapDone
      (Machine.darkTest s))))) := by
  have record : ∀ u, SameDialogue u (writeRecord u) := fun _ => .write
  exact ((((SameDialogue.darkTest s).trans (.swapDone _)).trans (.scanWorkEvents _)).trans
    (.evaluateWatches _)).trans (record _)

/-! ### A command taken (R151, R156, R159) -/

section
variable {d : Desk} {c : Command} {s t : State}

/-- The IDLE processor takes a command: its buffer is TAKEN, and nothing is held. -/
theorem PortsOpen.begun (h : PortsOpen s) (idle : s.processor.state = .idle)
    (waiting : (s.desk d).port.buffer = .waiting c) : PortsAs none (some d) none (begunAs d c s) := by
  have before := (portsOpen_idle idle).mp h
  have port : ((begunAs d c s).desk d).port = ⟨.taken c, (s.desk d).port.replies⟩ := by cases d <;> rfl
  have list : heldDesks (begunAs d c s).level.held = [] := by
    rw [begunAs_level]
    exact before.held
  refine before.write ?_ (congrArg DeskUnit.port (begunAs_other d c s)) list .rfl (by simp [Desk.ne_other])
  rw [port]
  simpa using (before.port d).take waiting

/-- The command in progress has its own reply at the end of the list; nothing is TAKEN any more. -/
theorem PortsAs.replied (h : PortsAs none (some d) none s) {r : Reply} (own : r.isOwn = true)
    (port : (t.desk d).port = ⟨.answering c, (s.desk d).port.replies ++ [r]⟩)
    (other : t.desk d.other = s.desk d.other) (level : t.level = s.level) :
    PortsAs (if r.kind = .restart then some d else none) none none t := by
  have list : heldDesks t.level.held = [] := by
    rw [level]
    exact h.held
  refine h.write ?_ (congrArg DeskUnit.port other) list ?_ (by simp [Desk.ne_other])
  · rw [port]
    have answered := (by simpa using h.port d : Port.InOrder False True _).answer c own
    simpa using answered
  · split <;> simp [Desk.ne_other]

/-- The command in progress is answered, and the processor is IDLE (R151). -/
theorem PortsAs.answer {a : Answer} (h : PortsAs none (some d) none a.state) : PortsOpen (answer d c a) := by
  obtain ⟨r, kind, port⟩ : ∃ r : Reply, r.kind = .final ∧
      ((Machine.answer d c a).desk d).port = ⟨.answering c, (a.state.desk d).port.replies ++ [r]⟩ := by
    cases d <;> exact ⟨_, rfl, rfl⟩
  have replied := h.replied (by simp [Reply.isOwn, kind]) port (answer_other d c a) (by cases d <;> rfl)
  rw [kind] at replied
  exact (portsOpen_idle (by rfl)).mpr replied

/-- A RESTART is answered, and the processor stays EXECUTING (R159). -/
theorem PortsAs.answerRestart (h : PortsAs none (some d) none s) (executing : s.processor.state = .executing d) :
    PortsOpen (answerRestart d c s) := by
  obtain ⟨r, kind, port⟩ : ∃ r : Reply, r.kind = .restart ∧
      ((Machine.answerRestart d c s).desk d).port = ⟨.answering c, (s.desk d).port.replies ++ [r]⟩ := by
    cases d <;> exact ⟨_, rfl, rfl⟩
  have replied := h.replied (by simp [Reply.isOwn, kind]) port (by cases d <;> rfl) (by cases d <;> rfl)
  rw [kind] at replied
  have still : (Machine.answerRestart d c s).processor.state = .executing d := by cases d <;> exact executing
  exact (portsOpen_executing still).mpr replied

/-- The command joins the held-request list, and the processor is HOLDING (R156). -/
theorem PortsAs.hold (h : PortsAs none (some d) none s) (r : Request) :
    PortsOpen ((s.setHeld (s.level.held ++ [.command d c r])).setProcessor (.holding d)) := by
  have list : heldDesks (s.level.held ++ [.command d c r]) = [d] := by
    have none : heldDesks s.level.held = [] := h.held
    unfold heldDesks at none ⊢
    simp [none]
  exact ⟨h.port, list⟩

/-- A WAITING command taken by the IDLE processor is refused, held, a RESTART, or answered by its owner (R151,
R156). -/
theorem PortsOpen.takeCommand (h : PortsOpen s) (idle : s.processor.state = .idle)
    (waiting : (s.desk d).port.buffer = .waiting c) : PortsOpen (takeCommand d c s) := by
  have begun := h.begun idle waiting
  unfold Machine.takeCommand dispatch
  rw [beginCommand_eq]
  simp only
  split
  · exact PortsAs.answer begun
  · split
    · exact begun.hold _
    · split
      · exact begun.answerRestart rfl
      · exact PortsAs.answer (begun.same (.perform _ _))

theorem PortsOpen.arbitrate (h : PortsOpen s) : PortsOpen (arbitrate s) := by
  suffices ∀ n s, PortsOpen s → PortsOpen (arbitrateWithin n s) from this 2 s h
  intro n
  induction n with
  | zero => exact fun _ h => h
  | succ n ih =>
    intro s h
    unfold arbitrateWithin
    split
    · rename_i next
      obtain ⟨idle, waiting, -⟩ := nextCommand_eq_some.mp next
      exact ih _ (h.takeCommand idle waiting)
    · exact h

/-- With the other desk's command taken before it, a command is the last that the processor can take. -/
theorem nextCommand_takeCommand {y : Desk} (next : nextCommand s = some (y, c))
    (served : (s.desk d).port.buffer.waitingCommand = none) : nextCommand (Machine.takeCommand y c s) = none := by
  obtain ⟨own, other⟩ := takeCommand_turnOver y c s
  obtain ⟨-, waiting, -⟩ := nextCommand_eq_some.mp next
  have differ : d ≠ y := by
    rintro rfl
    rw [waiting] at served
    cases served
  refine nextCommand_eq_none fun z => ?_
  by_cases hz : z = y
  · rw [hz]
    exact own
  · rw [Desk.eq_other_of_ne hz, other, ← Desk.eq_other_of_ne differ]
    exact served

/-- Two turns leave no command that the processor could take (R149, R151). -/
theorem nextCommand_arbitrate (s : State) : nextCommand (Machine.arbitrate s) = none := by
  have stops : ∀ u, nextCommand u = none → nextCommand (Machine.arbitrate u) = none := fun u none => by
    simp only [Machine.arbitrate, arbitrateWithin, none]
  cases first : nextCommand s with
  | none => exact stops s first
  | some x =>
    obtain ⟨d, c⟩ := x
    rw [arbitrate_next first]
    have served := (takeCommand_turnOver d c s).own
    generalize Machine.takeCommand d c s = u at served
    cases next : nextCommand u with
    | none => exact stops u next
    | some x =>
      obtain ⟨y, c'⟩ := x
      rw [arbitrate_next next]
      exact stops _ (nextCommand_takeCommand next served)

/-- An IDLE processor that could take no command finds none WAITING. -/
theorem waitingCommand_eq_none (h : nextCommand s = none) (idle : s.processor.state = .idle) (d : Desk) :
    (s.desk d).port.buffer.waitingCommand = none := by
  have chosen : ∀ x c', (s.desk x).port.buffer.waitingCommand = some c' →
      ¬(x = s.processor.served → (s.desk x.other).port.buffer.waitingCommand = none) := fun x c' waits turn => by
    have next := nextCommand_eq_some.mpr ⟨idle, Buffer.waitingCommand_eq_some.mp waits, turn⟩
    rw [h] at next
    cases next
  cases own : (s.desk d).port.buffer.waitingCommand with
  | none => rfl
  | some c =>
    cases other : (s.desk d.other).port.buffer.waitingCommand with
    | none => exact absurd (fun _ => other) (chosen d c own)
    | some c' =>
      by_cases first : d = s.processor.served
      · exact absurd (fun k => absurd (first.trans k.symm) (Desk.ne_other d)) (chosen d.other c' other)
      · exact absurd (fun k => absurd k first) (chosen d c own)

/-- After the arbiter's turns the invariant holds (R151). -/
theorem PortsInv.arbitrate (h : PortsOpen s) : PortsInv (arbitrate s) :=
  portsInv_iff.mpr ⟨h.arbitrate, fun d idle => waitingCommand_eq_none (nextCommand_arbitrate s) idle d⟩

end

/-! ### Arrivals and compute end (R77, R149, R150) -/

section
variable {d : Desk} {s : State}

/-- A write of one desk's port that keeps it in order, with the processor and the held requests as they are. -/
theorem PortsOpen.setPort (h : PortsOpen s) {p : Port}
    (own : p.InOrder (s.processor.state.executingFor = some d) (s.processor.state.holdingFor = some d)) :
    PortsOpen (s.setPort d p) := by
  unfold PortsOpen at h ⊢
  rw [State.setPort_processor]
  refine h.write (d := d) ?_ (by rw [State.setPort_desk_other]) ?_ .rfl .rfl
  · rwa [State.setPort_desk_port]
  · rw [State.setPort_level]
    exact h.held

/-- The same, when no command comes to wait. -/
theorem PortsInv.setPort (h : PortsInv s) {p : Port}
    (own : p.InOrder (s.processor.state.executingFor = some d) (s.processor.state.holdingFor = some d))
    (none : s.processor.state = .idle → p.buffer.waitingCommand = none) : PortsInv (s.setPort d p) := by
  obtain ⟨opened, waiting⟩ := portsInv_iff.mp h
  refine portsInv_iff.mpr ⟨opened.setPort own, fun x idle => ?_⟩
  rw [State.setPort_processor] at idle
  rw [State.desk_setPort]
  split
  · exact none idle
  · exact waiting x idle

theorem PortsInv.port (h : PortsInv s) (d : Desk) : ((s.desk d).port).InOrder
    (s.processor.state.executingFor = some d) (s.processor.state.holdingFor = some d) :=
  (portsInv_iff.mp h).1.port d

theorem PortsInv.commandArrives (h : PortsInv s) (d : Desk) (c : Command) : PortsInv (commandArrives d c s) := by
  by_cases empty : (s.desk d).port.buffer = .empty
  · unfold Machine.commandArrives
    simp only [empty]
    exact .arbitrate ((portsInv_iff.mp h).1.setPort ((h.port d).arrive empty c))
  · rw [commandArrives_busy c empty]
    split
    · rename_i room
      rw [addReply_busy]
      exact h.setPort ((h.port d).answerBusy room rfl) (h.desks d).waiting
    · exact h

/-- One held request taken from the head of the list: the command that the processor is HOLDING, or a task
(R77). -/
theorem PortsOpen.takeHeld (h : PortsOpen s) {x : Held} {rest : List Held} (list : s.level.held = x :: rest) :
    PortsOpen (takeHeld x (s.setHeld rest)) := by
  have held := h.held
  rw [list] at held
  cases x with
  | task r t =>
    have same : SameDialogue s (s.setHeld rest) := ⟨.of_desks rfl rfl rfl, by rw [list]; rfl⟩
    exact (h.same same).same (.takeTask r t _)
  | command d c r =>
    obtain ⟨holding, nothing⟩ : s.processor.state.holdingFor = some d ∧ heldDesks rest = [] := by
      change d :: heldDesks rest = _ at held
      cases holds : s.processor.state.holdingFor <;> simp_all
    have before := (portsOpen_holding (ProcessorState.holdingFor_eq_some.mp holding)).mp h
    have begun : PortsAs none (some d) none ((s.setHeld rest).setProcessor (.executing d)) :=
      ⟨before.port, nothing⟩
    exact PortsAs.answer (begun.same (.perform r _))

theorem PortsOpen.takeHeldAll {held : List Held} (h : PortsOpen s) (still : StillHeld held s) :
    PortsOpen (takeHeldAll held s) := by
  induction held generalizing s with
  | nil => exact h
  | cons x rest ih =>
    have left : StillHeld rest (s.setHeld rest) := ⟨still.1, rfl⟩
    exact ih (h.takeHeld still.2) (left.takeHeld x)

theorem PortsInv.computeEnd (h : PortsInv s) : PortsInv (computeEnd s) := by
  have begun : SameDialogue s { s with level := { s.level with phase := .waiting } } := .write
  have posted : PortsOpen (postSets { s with level := { s.level with phase := .waiting } }) :=
    ((portsInv_iff.mp h).1.same begun).same (.postSets _)
  have still : StillHeld s.level.held (postSets { s with level := { s.level with phase := .waiting } }) :=
    (StillHeld.keptByHolding _).same (postSets_sameHeld _) ⟨rfl, rfl⟩
  rw [computeEnd_eq]
  exact .arbitrate ((posted.takeHeldAll still).same (.afterHeld _))

/-! ### Replies sent, RESTART and power-on (R150, R159, R162, R172) -/

/-- The restart of the desk that the processor is EXECUTING it for: both buffers are EMPTY, and nothing is held. -/
theorem PortsInv.restartPart (h : PortsInv s) (executing : s.processor.state = .executing d) :
    PortsInv (restartPart d s) := by
  have port : ∀ x, Port.InOrder False False ((Machine.restartPart d s).desk x).port := fun x => by
    rw [restartPart_desk]
    split
    · exact Port.inOrder_atRestart (rs := []) nofun
    · rename_i differ
      refine Port.inOrder_atRestart fun r hr kind => differ ?_
      have same := (h.desks x).restart.mp ⟨r, hr, kind⟩
      rw [executing] at same
      cases same
      rfl
  refine portsInv_iff.mpr ⟨(portsOpen_idle rfl).mpr ⟨fun x => by simpa using port x, rfl⟩, fun x _ => ?_⟩
  rw [restartPart_desk]
  rfl

/-- The desk that a restart is carried out for has its reply in its list (R159). -/
theorem restart_mem_of_restartingDesk (h : restartingDesk s = some d) :
    ∃ r ∈ (s.desk d).port.replies, r.kind = .restart := by
  have found : ∀ {rs : List Reply}, rs.any (fun r => decide (r.kind = .restart)) = true →
      ∃ r ∈ rs, r.kind = .restart := fun any => by simpa using any
  unfold restartingDesk at h
  split at h
  · cases h
    exact found (by assumption)
  · split at h
    · cases h
      exact found (by assumption)
    · cases h

theorem PortsInv.restartMoment (h : PortsInv s) : PortsInv (restartMoment s) := by
  unfold Machine.restartMoment
  split
  · exact h.restartPart ((h.desks _).restart.mp (restart_mem_of_restartingDesk (by assumption)))
  · exact h

theorem PortsInv.replyDone (h : PortsInv s) (d : Desk) : PortsInv (replyDone d s) := by
  cases list : (s.desk d).port.replies with
  | nil =>
    simp only [Machine.replyDone, list]
    exact h
  | cons r rest =>
    have port := h.port d
    have notOwn (k : r.kind = .busy ∨ r.kind = .orphan) : PortsInv (Machine.replyDone d s) := by
      rw [replyDone_notOwn list k]
      exact h.setPort (port.sent list k) (h.desks d).waiting
    cases kind : r.kind with
    | busy => exact notOwn (.inl kind)
    | orphan => exact notOwn (.inr kind)
    | final =>
      rw [replyDone_final list kind]
      exact h.setPort (port.finalSent list kind) fun _ => rfl
    | restart =>
      rw [replyDone_restart list kind]
      exact h.restartPart ((h.desks d).restart.mp ⟨r, by simp [list], kind⟩)

theorem PortsInv.powerOn (s : State) : PortsInv (powerOn s) := by
  have port : ∀ d, ((Machine.powerOn s).desk d).port = ⟨.empty, []⟩ := fun d => by cases d <;> rfl
  refine portsInv_iff.mpr ⟨(portsOpen_idle rfl).mpr ⟨fun d => ?_, rfl⟩, fun d _ => ?_⟩
  · rw [port]
    simpa [repliesAtRestart] using Port.inOrder_atRestart (rs := []) nofun
  · rw [port]
    rfl

end

/-- Every occurrence keeps the command buffers and reply lists as R149 to R151 and R159 give them. -/
theorem PortsInv.keptByOccurrences : KeptByOccurrences PortsInv where
  queue _ _ h := h.same .write
  choice _ _ h := h.same .write
  power s _ := .powerOn s
  millisecond _ h := h.same .write
  receiver d _ s h := h.same (.setReceiver s d _)
  levels d base levels s h := h.same (.levelsArrive d base levels s)
  command d c _ h := h.commandArrives d c
  timeout d s h := h.same (.raised (.checkTimeout d s) (checkTimeout_sameHeld d s))
  lossFade d s h := h.same (.expireFade d s)
  reply d _ h := h.replyDone d
  restart _ h := h.restartMoment
  scan s _ _ h := by
    rw [scanStart_eq]
    exact h.same .write
  compute _ _ h := h.computeEnd
  frame _ _ h := h.same .write
  refresh _ _ h := h.same .write
  input c high s h := h.same (.changeContact c high s)
  debounce c s h := h.same (.raised (.debounceEnd c s) (debounceEnd_sameHeld c s))
  clock c s h := h.same (.owedAdvance c s)
  stored s h := h.same (.storeCompleted s)
  faulted s h := h.same (.storeFaulted s)

/-- Settles O57: every occurrence keeps the ports and the processor in agreement, and every step is made of
occurrences. -/
theorem stepKeepsTheCommandBuffers : Obligations.StepKeepsTheCommandBuffers :=
  fun _ _ h step => step_keeps PortsInv.keptByOccurrences h step

end Sys2Proof.Machine
end

section
/-! PROOFS. O47 and O48: an event's flag and report, the three requests of the report unit, and a store from its
STARTED reply to its end (R164 to R171, R178). -/

namespace Sys2Proof.Machine

/-! ### An event at the report unit (R164, R165, R178) -/

theorem EventKind.bit_lt (k : EventKind) : k.bit < 14 := by cases k <;> decide

/-- Each event kind has a bit of its own in a flags or mask field: the bit is its place among the kinds (R178). -/
theorem EventKind.bit_inj {k l : EventKind} : k.bit = l.bit ↔ k = l := by
  have place : ∀ x : EventKind, EventKind.ofNat x.bit = x := fun x => by cases x <;> rfl
  exact ⟨fun h => by rw [← place k, h, place l], congrArg _⟩

theorem Reports.append_flags (r : Reports) (x : Report) : (r.append x).flags = r.flags := by
  obtain ⟨-, h⟩ | ⟨-, h⟩ := r.append_cases x <;> rw [h]

/-- The flag of an event is set whatever the mask holds (R164). -/
theorem Reports.take_flags (r : Reports) (e : Event) (now : Time) :
    (r.take e now).flags = r.flags ||| BitVec.twoPow 14 e.kind.bit := by
  unfold Reports.take
  simp only
  split
  · exact Reports.append_flags ..
  · rfl

theorem Reports.take_flag (r : Reports) (e : Event) (now : Time) (k : EventKind) :
    (r.take e now).flags.getLsbD k.bit = (r.flags.getLsbD k.bit || decide (k = e.kind)) := by
  rw [Reports.take_flags, BitVec.getLsbD_or, BitVec.getLsbD_twoPow, decide_eq_true e.kind.bit_lt, Bool.true_and]
  simp only [EventKind.bit_inj, eq_comm]

section
variable {r : Reports} {e : Event}

/-- An enabled kind joins the queue at its tail while there is room (R165). -/
theorem Reports.take_queued (on : r.mask.getLsbD e.kind.bit = true) (room : r.queue.length < 32) (now : Time) :
    r.take e now =
      { r with queue := r.queue ++ [⟨e, now⟩], flags := r.flags ||| BitVec.twoPow 14 e.kind.bit } :=
  (if_pos on).trans (if_pos room)

/-- An enabled kind is dropped with the overrun flag set when the queue is full (R165). -/
theorem Reports.take_dropped (on : r.mask.getLsbD e.kind.bit = true) (full : 32 ≤ r.queue.length) (now : Time) :
    r.take e now = { r with flags := r.flags ||| BitVec.twoPow 14 e.kind.bit, overrun := true } :=
  (if_pos on).trans (if_neg (Nat.not_lt.mpr full))

/-- A kind that the mask does not enable makes no report (R164). -/
theorem Reports.take_disabled (off : r.mask.getLsbD e.kind.bit = false) (now : Time) :
    r.take e now = { r with flags := r.flags ||| BitVec.twoPow 14 e.kind.bit } :=
  if_neg (Bool.eq_false_iff.mp off)

end

theorem eventsAreFlaggedAndQueued : Clause.EventsAreFlaggedAndQueued := by
  intro e s r t enabled
  refine ⟨rfl, Reports.take_mask .., Reports.take_flag r e s.showClock, fun on room => ?_, fun on full => ?_,
    fun off => ?_⟩
  · simp only [t, State.report_reports, Reports.take_queued on room, r, and_self]
  · simp only [t, State.report_reports, Reports.take_dropped on full, r, and_self]
  · simp only [t, State.report_reports, Reports.take_disabled off, r, and_self]

/-! ### TAKE REPORTS, SET REPORT MASK and CLEAR FLAGS (R166 to R168) -/

theorem takeCount_eq (count : Byte) :
    takeCount count = if count = 0 then 1 else if 8 < count.toNat then 8 else count.toNat := by
  unfold takeCount
  by_cases zero : count = 0
  · rw [if_pos zero, zero]
    rfl
  · have pos : 1 ≤ count.toNat := by bv_omega
    rw [if_neg zero]
    split
    · exact clamp_of_gt (by assumption) (by decide)
    · exact clamp_of_mem pos (by omega)

/-- The fourteen enables in a two-byte field, its two high bits 0 (R178, assumption 27). -/
theorem zeroExtend_setWidth_14 (mask : Half) : (mask.setWidth 14).zeroExtend 16 = mask &&& 0x3fff := by
  refine BitVec.eq_of_toNat_eq ?_
  have low : (0x3fff : Half).toNat = 2 ^ 14 - 1 := rfl
  rw [BitVec.toNat_and, low, Nat.and_two_pow_sub_one_eq_mod]
  exact (BitVec.toNat_setWidth_of_le (by decide)).trans (BitVec.toNat_setWidth ..)

/-- CLEAR FLAGS clears the selected flags and no other (R167). -/
theorem Reports.clear_flag (r : Reports) (selection : Half) (k : Fin 14) :
    (r.clear selection).flags.getLsbD k.val = (r.flags.getLsbD k.val && !selection.getLsbD k.val) := by
  simp [Reports.clear]

theorem reportRequestsChangeTheirPart : Clause.ReportRequestsChangeTheirPart := by
  intro d tag s r
  refine ⟨fun count taken => ?_, fun mask taken => ?_, fun selection taken => ?_⟩
  · refine exec_done rfl taken nofun ?_
    rw [← takeCount_eq]
    simp only [perform, ownerTakeReports, begun_reports, List.length_take, List.length_drop, r]
  · refine exec_done rfl taken nofun ?_
    simp only [perform, ownerSetReportMask, begun_reports, zeroExtend_setWidth_14, r]
  · refine ⟨{ begun d tag (.clearFlags selection) s with reports := r.clear selection }, rfl,
      r.clear_flag selection, rfl, exec_done rfl taken nofun ?_⟩
    simp only [perform, ownerClearFlags, begun_reports, r]

/-- Settles O47: an event by the mask and the room in the queue, then the answer of each owner. -/
theorem reportsAreQueuedTakenAndCleared : Obligations.ReportsAreQueuedTakenAndCleared :=
  ⟨eventsAreFlaggedAndQueued, reportRequestsChangeTheirPart⟩

/-! ### STORE and its two ends (R169 to R171) -/

/-- A command in its buffer is not an item of R170. -/
theorem imageOf_begun (d : Desk) (tag : Byte) (r : Request) (s : State) :
    imageOf (begun d tag r s) = imageOf s := by
  cases d <;> rfl

theorem storeTakesTheImageAsItStands : Clause.StoreTakesTheImageAsItStands := by
  intro d tag s taken
  refine ⟨imageOf s, rfl, rfl, rfl, rfl, rfl, fun p => Table.get_map .., rfl, rfl, fun l => Table.get_map ..,
    fun c => Table.get_map .., fun c => Table.get_map .., fun w => Table.get_map .., fun r => Table.get_map .., rfl,
    ?_, ?_, ?_⟩
  · have owner : perform .store (begun d tag .store s) =
        ⟨{ begun d tag .store s with memory := .storing (imageOf s) s.showClock }, .started,
          quadBytes s.showClock⟩ := by
      simp only [perform, ownerStore, imageOf_begun, begun_showClock]
    rw [exec_taken rfl taken nofun, owner]
    rfl
  · simp [replyFlags_getLsbD, ShowMemory.isValid]
  · simp [replyFlags_getLsbD, ShowMemory.isStoring]

section
variable {s : State}

theorem storeCompleted_storing {i : Image} {since : Time} (h : s.memory = .storing i since) :
    storeCompleted s =
      ({ s with memory := .valid i }).report ⟨.storeDone, 0, elapsed s.showClock since⟩ := by
  rw [storeCompleted, h]
  exact raiseEvent_notRoutable rfl _

theorem storeFaulted_storing {i : Image} {since : Time} (h : s.memory = .storing i since) :
    storeFaulted s = ({ s with memory := .invalid }).report ⟨.storeFailed, 0, 0⟩ := by
  rw [storeFaulted, h]
  exact raiseEvent_notRoutable rfl _

theorem storeCompleted_notStoring (h : s.memory.isStoring = false) : storeCompleted s = s := by
  unfold storeCompleted
  split
  · rename_i storing
    rw [storing] at h
    cases h
  · rfl
  · rfl

theorem storeFaulted_notStoring (h : s.memory.isStoring = false) : storeFaulted s = s := by
  unfold storeFaulted
  split
  · rename_i storing
    rw [storing] at h
    cases h
  · rfl
  · rfl

end

theorem storeEndsValidOrInvalid : Clause.StoreEndsValidOrInvalid := fun _ =>
  ⟨fun _ _ storing => ⟨congrArg _ (storeCompleted_storing storing), congrArg _ (storeFaulted_storing storing)⟩,
    fun idle => ⟨congrArg _ (storeCompleted_notStoring idle), congrArg _ (storeFaulted_notStoring idle)⟩⟩

/-- Settles O48: the owner's answer holds the image, and neither end is offered to a route. -/
theorem storeWritesTheImageAndEnds : Obligations.StoreWritesTheImageAndEnds :=
  ⟨storeTakesTheImageAsItStands, storeEndsValidOrInvalid⟩

end Sys2Proof.Machine
end

section
/-! PROOFS. O1: what one step does, by the queue it finds. -/

namespace Sys2Proof.Machine

/-! ### One step, by its queue -/

/-- A step that finds a command executes it with the queue's rest. -/
theorem step_of_pending_cons {s : State} {c : Instr} {rest : List Instr} (h : s.pending = c :: rest) :
    step s = exec c { s with pending := rest } := by
  rw [step, h]

/-- A step that finds no command idles (assumption 9). -/
theorem step_of_pending_nil {s : State} (h : s.pending = []) : step s = .next s := by
  rw [step, h]

/-- Settles O1: the two cases of the queue, a command at its front and none. -/
theorem stepRunsTheFrontCommand : Obligations.StepRunsTheFrontCommand :=
  ⟨fun _ _ _ => step_of_pending_cons rfl, fun _ => step_of_pending_nil rfl⟩

end Sys2Proof.Machine
end
